-- ==== Sys2Proof/Word.lean ====
section
/-! DEFINITION. The word types of UC8151c-FBE (`spec/00_scope.md` R11, R13; `spec/30_encoding.md` R90).
Every operand is unsigned; the block has no signed quantity. -/

namespace Sys2Proof

/-- A byte: one payload byte, one command byte, a character code, a fill value (R11). -/
abbrev Byte := BitVec 8

/-- A 16-bit operand `x`, `y`, `width` or `height`, a window register, or a payload counter (R11, R24, R27). -/
abbrev Word := BitVec 16

/-- The 32-bit poll bound of WAITREADY, and the width of ELAPSED (R11, R32). -/
abbrev Count := BitVec 32

/-- One request descriptor, `req_desc[79:0]` (R90). Bit 0 is the least significant bit. -/
abbrev Descriptor := BitVec 80

end Sys2Proof
end

