-- ==== Sys2Proof/Config.lean ====
section
/-! DEFINITION. The configuration of one block (`spec/00_scope.md` R6 to R12) and the free values.

Three kinds of thing stand here:
* `Config`, the record of the parameters of one block, fixed for its life (R33);
* the constants the source fixes (R8), each a single name (U19 of `spec/93_implementation_defined.md`);
* the FREE VALUES: `opaque` constants with no body, for what the spec leaves open. No proof can see their value.
Each free value is named in a row of `notes/assumptions/`. -/

namespace Sys2Proof

/-- The parameters of one block, R6, R8, R9, R10. `tSettle` is carried by the Delay event and interpreted by no
rule (R10). Legality is `Config.legal` in `WellFormed.lean` (R12, R8). -/
structure Config where
  panelW    : Nat
  panelH    : Nat
  glyphN    : Nat
  opPtin    : Byte
  opPtl     : Byte
  opPtout   : Byte
  opDtm1    : Byte
  opDtm2    : Byte
  scanByte  : Byte
  tSettle   : Nat
  deriving DecidableEq, Repr

namespace Config

/-- `BYTE_W = ceil(PANEL_W / 8)`, R7. -/
def byteW (c : Config) : Nat := (c.panelW + 7) / 8

/-- `PANEL_BYTES = BYTE_W * PANEL_H`, R7. -/
def panelBytes (c : Config) : Nat := c.byteW * c.panelH

/-! Constants the source fixes, R8. -/

/-- `GLYPH_WIN_W`, R8. -/
def glyphWinW : Word := 8
/-- `GLYPH_WIN_H`, R8. -/
def glyphWinH : Word := 16
/-- `GLYPH_ROWS`, R8. -/
def glyphRows : Nat := 13
/-- `GLYPH_MARGIN`, R8: this many margin bytes lead and this many trail. -/
def glyphMargin : Nat := 2
/-- `GLYPH_BASE`, R8. -/
def glyphBase : Nat := 32
/-- `TEXT_ADVANCE`, R8. -/
def textAdvance : Nat := 8
/-- The payload length of GLYPH, `2 + 13 + 2` (R143). -/
def glyphBytes : Nat := glyphMargin + glyphRows + glyphMargin

/-! ### The OPEN parameters as free values (R8, R9, R10; log entry 1)

`State.reset` takes its configuration from these, so that nothing proved from reset rests on one of their values.
`glyphNOpen` ranges over the 224 sizes that R8 allows. -/

opaque glyphNOpen   : Fin 224
opaque opPtinOpen   : Byte
opaque opPtlOpen    : Byte
opaque opPtoutOpen  : Byte
opaque opDtm1Open   : Byte
opaque opDtm2Open   : Byte
opaque scanByteOpen : Byte
opaque tSettleOpen  : Nat

/-- The default block, R6: 152 by 152 pixels (D1, `90_conflicts.md` C1), every OPEN parameter a free value. -/
def default152 : Config where
  panelW := 152
  panelH := 152
  glyphN := 1 + glyphNOpen.val
  opPtin := opPtinOpen
  opPtl := opPtlOpen
  opPtout := opPtoutOpen
  opDtm1 := opDtm1Open
  opDtm2 := opDtm2Open
  scanByte := scanByteOpen
  tSettle := tSettleOpen

/-! ### Free values read as the machine runs

Each takes the tick number (the model's own counter `State.tick`), so that every reading is a fresh value. -/

/-- What the input ports read in a tick the state's script does not reach (log entry 3; R182 (d), U6). -/
opaque freeRst      : Nat → Bool
@[inherit_doc freeRst] opaque freeReqValid : Nat → Bool
@[inherit_doc freeRst] opaque freeReqDesc  : Nat → Descriptor
@[inherit_doc freeRst] opaque freePstate   : Nat → BitVec 2
@[inherit_doc freeRst] opaque freeRdyLine  : Nat → Bool
@[inherit_doc freeRst] opaque freeEvReady  : Nat → Bool
/-- The buffer the caller presents in a tick the script does not reach; `none`: the same buffer stays (log entry 3). -/
opaque freeBuffer   : Nat → Option (List Byte)

/-- The byte a PIXBUF read returns, in tick `t` at index `i`, where the caller's buffer holds no byte (log entry 5; U16). -/
opaque freePixByte  : (t i : Nat) → Byte

/-- The byte of GLYPHROM at `(g, k)` where the state lists none: a constant of the block, value not in the spec
(log entry 6; R61, N8). -/
opaque glyphRomByte : (g k : Nat) → Byte

/-- The values a tick with `rst = 1` leaves in the registers the spec calls unspecified (log entry 4; R44, R240). -/
opaque unspecOp      : Nat → BitVec 4
@[inherit_doc unspecOp] opaque unspecColor   : Nat → Bool
@[inherit_doc unspecOp] opaque unspecPresent : Nat → Bool
@[inherit_doc unspecOp] opaque unspecArg     : Nat → Byte
@[inherit_doc unspecOp] opaque unspecX       : Nat → Word
@[inherit_doc unspecOp] opaque unspecY       : Nat → Word
@[inherit_doc unspecOp] opaque unspecW       : Nat → Word
@[inherit_doc unspecOp] opaque unspecH       : Nat → Word
@[inherit_doc unspecOp] opaque unspecHS      : Nat → Word
@[inherit_doc unspecOp] opaque unspecHE      : Nat → Word
@[inherit_doc unspecOp] opaque unspecVS      : Nat → Word
@[inherit_doc unspecOp] opaque unspecVE      : Nat → Word
@[inherit_doc unspecOp] opaque unspecN       : Nat → Word
@[inherit_doc unspecOp] opaque unspecI       : Nat → Word
@[inherit_doc unspecOp] opaque unspecIdx     : Nat → BitVec 3
@[inherit_doc unspecOp] opaque unspecElapsed : Nat → Count

end Config

end Sys2Proof
end

