-- ==== Sys2Proof/Syntax.lean ====
section
/-! DEFINITION. The request operations (`spec/30_encoding.md` R90 to R92), whole: one constructor of `Instr` for each
row of `spec/opcode_table.json`. A constructor carries EVERY field of the descriptor, the ignored ones too, because
acceptance latches them all (R93, R95). The operands the operation reads come first, in the order of the source's
call (R103); the ignored fields follow.

`Request` is the written form of R103: a mnemonic and numbers; what a line does not name is encoded as 0. -/

namespace Sys2Proof

/-- One request. -/
inductive Instr where
  /-- `computeWindow(x, y, width, height)`, R127. Ignored: `arg`, `present`, `color`. -/
  | window (x y w h : Word) (arg : Byte) (present color : Bool)
  /-- Fill with the byte `v`, R145. Ignored: `present`, `color`. -/
  | fill (x y w h : Word) (v : Byte) (present color : Bool)
  /-- RawBuffer, R147. Ignored: `arg`, `color`. -/
  | rawbuf (x y w h : Word) (present : Bool) (arg : Byte) (color : Bool)
  /-- Glyph `code` in `color`, R149. Ignored: `w`, `h`, `present`. -/
  | glyph (x y : Word) (code : Byte) (color : Bool) (w h : Word) (present : Bool)
  /-- `clear()`, R152. Every field is ignored. -/
  | clear (x y w h : Word) (arg : Byte) (present color : Bool)
  /-- `waitReady(timeout)`, R184. Ignored: `w`, `h`, `arg`, `present`, `color`. -/
  | waitready (timeout : Count) (w h : Word) (arg : Byte) (present color : Bool)
  deriving DecidableEq, Repr

/-- The fields of a descriptor but `rsv` (R90): what a request latches (R93), and so the contents of the operand
latches (R21). -/
structure Operands where
  op      : BitVec 4
  color   : Bool
  present : Bool
  arg     : Byte
  x       : Word
  y       : Word
  w       : Word
  h       : Word
  deriving DecidableEq, Repr

/-- A descriptor that selects no operation (R94), by what is reserved in it. -/
inductive Reserved where
  /-- `rsv` is not 00. -/
  | rsvBits (rsv : BitVec 2)
  /-- `rsv` is 00 and `op` is 0 or 7 to 15. -/
  | opNumber (op : BitVec 4)
  deriving DecidableEq, Repr

/-- A request as a caller writes it (R103), and the source's calls that are one operation (R110):
`computeWindow` is `window`, `drawBitmap` is `rawbuf`, `drawGlyph` is `glyph`, `clear` and `waitReady` bear their own
names, and `fillRectangle` is `fill` with the width and height the caller makes of its corners (N10).
Numbers are naturals; `Request.wellFormed` says that they fit their fields. -/
inductive Request where
  | window (x y w h : Nat)
  | fill (x y w h v : Nat)
  | rawbuf (x y w h : Nat) (present : Bool)
  | glyph (x y code : Nat) (color : Bool)
  | clear
  | waitready (timeout : Nat)
  deriving DecidableEq, Repr

end Sys2Proof
end

