-- ==== Sys2Proof/WellFormed.lean ====
section
/-! DEFINITION. Well-formedness checks.

An `Instr` needs none: every field has exactly its width, and every value of every field is legal (R92, D29).
Checked here are what a caller writes (`Request`, R103), and the parameters of a block (`Config`, R12, R8). -/

namespace Sys2Proof

/-- Every number fits its field: 16 bits for a coordinate or a size, 8 for a value or a code, 32 for a timeout (R90, R96). -/
def Request.wellFormed : Request → Bool
  | .window x y w h => x < 65536 && y < 65536 && w < 65536 && h < 65536
  | .fill x y w h v => x < 65536 && y < 65536 && w < 65536 && h < 65536 && v < 256
  | .rawbuf x y w h _ => x < 65536 && y < 65536 && w < 65536 && h < 65536
  | .glyph x y code _ => x < 65536 && y < 65536 && code < 256
  | .clear => true
  | .waitready timeout => timeout < 4294967296

/-- The request a line stands for; fields the mnemonic does not name are 0 (R103). -/
def Request.toInstr : Request → Instr
  | .window x y w h => .window (.ofNat 16 x) (.ofNat 16 y) (.ofNat 16 w) (.ofNat 16 h) 0 false false
  | .fill x y w h v => .fill (.ofNat 16 x) (.ofNat 16 y) (.ofNat 16 w) (.ofNat 16 h) (.ofNat 8 v) false false
  | .rawbuf x y w h present =>
    .rawbuf (.ofNat 16 x) (.ofNat 16 y) (.ofNat 16 w) (.ofNat 16 h) present 0 false
  | .glyph x y code color => .glyph (.ofNat 16 x) (.ofNat 16 y) (.ofNat 8 code) color 0 0 false
  | .clear => .clear 0 0 0 0 0 false false
  | .waitready timeout => .waitready (.ofNat 32 timeout) 0 0 0 false false

/-- The parameters are legal: R12 for the panel, R8 for the glyph table (R245; log entry 12). -/
def Config.legal (c : Config) : Bool :=
  1 ≤ c.panelW && c.panelW ≤ 256 && 1 ≤ c.panelH && c.panelH ≤ 512 && 1 ≤ c.glyphN && c.glyphN ≤ 224

end Sys2Proof
end

