-- ==== Sys2Proof/Decode.lean ====
section
/-! DEFINITION. Decoding and encoding of the request descriptor (`spec/30_encoding.md` R90 to R97).

`decode` is total: every 80-bit value is one of the six operations or is refused by name (R93, R94). `encode` is
written from the same table (R90) and is its inverse on the operations. -/

namespace Sys2Proof

/-! ### Fields of a descriptor, R90 -/

/-- The reserved field, bits 7:6. -/
def Descriptor.rsv (d : Descriptor) : BitVec 2 := d.extractLsb' 6 2

/-- The fields of R90's table but `rsv`. -/
def Descriptor.operands (d : Descriptor) : Operands where
  op := d.extractLsb' 0 4
  color := d.getLsbD 4
  present := d.getLsbD 5
  arg := d.extractLsb' 8 8
  x := d.extractLsb' 16 16
  y := d.extractLsb' 32 16
  w := d.extractLsb' 48 16
  h := d.extractLsb' 64 16

/-- The descriptor of given fields, as R103 writes it (`rsv` is 00):
`op | color << 4 | present << 5 | arg << 8 | x << 16 | y << 32 | w << 48 | h << 64`. -/
def Operands.pack (o : Operands) : Descriptor :=
  o.op.setWidth 80 ||| (BitVec.ofBool o.color).setWidth 80 <<< 4 ||| (BitVec.ofBool o.present).setWidth 80 <<< 5
    ||| o.arg.setWidth 80 <<< 8 ||| o.x.setWidth 80 <<< 16 ||| o.y.setWidth 80 <<< 32
    ||| o.w.setWidth 80 <<< 48 ||| o.h.setWidth 80 <<< 64

/-- The timeout: `TMO[31:0] = {Y[15:0], X[15:0]}`, R22, R96. -/
def Operands.tmo (o : Operands) : Count := o.y ++ o.x

/-! ### Decode, R91 to R96 -/

/-- Decode of one descriptor. The reserved bits are looked at first, then the operation number (R94, R202: both are
InvalidOp). -/
def decode (d : Descriptor) : Except Reserved Instr :=
  let o := Descriptor.operands d
  if Descriptor.rsv d = 0 then
    match o.op.toNat with
    | 1 => .ok (.window o.x o.y o.w o.h o.arg o.present o.color)
    | 2 => .ok (.fill o.x o.y o.w o.h o.arg o.present o.color)
    | 3 => .ok (.rawbuf o.x o.y o.w o.h o.present o.arg o.color)
    | 4 => .ok (.glyph o.x o.y o.arg o.color o.w o.h o.present)
    | 5 => .ok (.clear o.x o.y o.w o.h o.arg o.present o.color)
    | 6 => .ok (.waitready o.tmo o.w o.h o.arg o.present o.color)
    | _ => .error (.opNumber o.op)
  else
    .error (.rsvBits (Descriptor.rsv d))

/-! ### Encode, R90, R91, R103 -/

/-- The operation number, R91. -/
def Instr.opNumber : Instr → BitVec 4
  | .window .. => 1
  | .fill .. => 2
  | .rawbuf .. => 3
  | .glyph .. => 4
  | .clear .. => 5
  | .waitready .. => 6

/-- The fields of an operation's descriptor: what its acceptance latches (R92, R93). The timeout of WAITREADY lies in
`x` (low half) and `y` (high half), R96. -/
def Instr.operands (i : Instr) : Operands :=
  match i with
  | .window x y w h arg present color =>
    { op := i.opNumber, color, present, arg, x, y, w, h }
  | .fill x y w h v present color =>
    { op := i.opNumber, color, present, arg := v, x, y, w, h }
  | .rawbuf x y w h present arg color =>
    { op := i.opNumber, color, present, arg, x, y, w, h }
  | .glyph x y code color w h present =>
    { op := i.opNumber, color, present, arg := code, x, y, w, h }
  | .clear x y w h arg present color =>
    { op := i.opNumber, color, present, arg, x, y, w, h }
  | .waitready timeout w h arg present color =>
    { op := i.opNumber, color, present, arg,
      x := timeout.extractLsb' 0 16, y := timeout.extractLsb' 16 16, w, h }

/-- The one word of an operation. -/
def encode (i : Instr) : Descriptor := i.operands.pack

/-! ### The host's reading of a row of the opcode table -/

/-- The descriptor whose low `nbits` bits are `w` and whose other bits are 0. The table numbers a descriptor's bits as
the descriptor does: one 80-bit word, bit 0 least significant (R90). -/
def tableDescriptor (nbits w : Nat) : Descriptor := BitVec.ofNat 80 (w % 2 ^ nbits)

/-- What the decoder reads from an instruction whose bits are `w`. -/
def decodeTableWord (nbits w : Nat) : Option Instr :=
  match decode (tableDescriptor nbits w) with
  | .ok i => some i
  | .error _ => none

/-! ### Text: the pseudo-operation of R112 -/

/-- `drawText(x, y, text, color)`: one GLYPH for each character, `TEXT_ADVANCE` pixels apart, left to right, in this
order. The addition `x + 8*i` is the caller's and exact; a line past 65535 is not `Request.wellFormed`, and the spec gives
it no meaning. -/
def drawText (x y : Nat) (text : List Byte) (color : Bool) : List Request :=
  match text with
  | [] => []
  | c :: rest => .glyph x y c.toNat color :: drawText (x + Config.textAdvance) y rest color

end Sys2Proof
end

