-- ==== Sys2Proof/Machine/State.lean ====
section
/-! DEFINITION. The state of UC8151c-FBE (`spec/10_state.md`), its reset, and the reasons a step can stop.

The registers of the block are those of R21 to R32. Beside them the state holds, as plain data, what the block's step
reads and writes through its ports: the configuration (R33), the spaces PIXBUF, GLYPHROM and BUS (R60 to R62), and
the levels of the input ports in this tick and the ticks to come (R34 to R40). -/

namespace Sys2Proof.Machine

/-- The sequencer phase PH: exactly the fifteen values of R26. -/
inductive Phase where
  | idle | ptin | ptl | win | dtm | pay | settle | ptout
  | c1cmd | c1data | c1dly | c2cmd | c2data | c2dly
  | poll
  deriving DecidableEq, Repr

/-- The response codes of R200, in their numbering. Code 7 is never produced (U18) and is no constructor. -/
inductive Code where
  | ok | invalidState | invalidGlyph | invalidGeometry | deviceTimeout | deviceFault | invalidOp
  deriving DecidableEq, Repr

/-- The Power State as the input `pstate[1:0]` carries it (R34); `reserved` is the value 3, treated as not Ready (U15). -/
inductive PowerState where
  | uninitialized | ready | sleeping | reserved
  deriving DecidableEq, Repr

/-- One event on BUS, R15. -/
inductive Event where
  /-- `writeByte(b, Command)`. -/
  | cmd (b : Byte)
  /-- `writeByte(b, Data)`. -/
  | data (b : Byte)
  /-- One call of the delay primitive for duration `t`. -/
  | delay (t : Nat)
  deriving DecidableEq, Repr

/-- The window registers HS, HE, VS, VE: the source's WindowRect, R24. -/
structure WindowRect where
  hs : Word
  he : Word
  vs : Word
  ve : Word
  deriving DecidableEq, Repr

/-- The levels of the input ports in one tick: R34, R35, R36, R38, R40. -/
structure Pins where
  /-- `rst`, the block's own reset (R40, R240). -/
  rst      : Bool
  /-- `req_valid` (R36). -/
  reqValid : Bool
  /-- `req_desc[79:0]` (R36). -/
  reqDesc  : Descriptor
  /-- `pstate[1:0]` (R34). -/
  pstate   : PowerState
  /-- `rdy_line`, as a flop sampling in this tick takes it: true is ready (R35, R180, R182 (c)). -/
  rdyLine  : Bool
  /-- `ev_ready` (R38). -/
  evReady  : Bool
  deriving DecidableEq, Repr

/-- What the world around the block does in one coming tick: the levels it drives, and, where the caller presents
another pixel buffer from that tick on, the bytes of that buffer from index 0 (R60). -/
structure EnvTick where
  pins   : Pins
  buffer : Option (List Byte)
  deriving DecidableEq, Repr

/-- The contents of a space the block reads: cells in strictly rising order of address (DESIGN CHOICE, log entry 5). Its operations
are in `Machine/Ops.lean`. -/
abbrev Memory := List Host.Cell

/-- The state of one block. Field by field, with the rule that names each. -/
structure State where
  /-- The configuration parameters (R33): read by every rule, written by none. -/
  cfg      : Config
  /-- The operand latches OP, COLOR, PRESENT, ARG, X, Y, W, H (R21). TMO is an alias into them (R22). -/
  lat      : Operands
  /-- The window registers (R24). -/
  win      : WindowRect
  /-- PH (R26). -/
  ph       : Phase
  /-- IDX, 3 bits (R27). -/
  idx      : BitVec 3
  /-- N, 16 bits (R27). -/
  n        : Word
  /-- I, 16 bits (R27). -/
  i        : Word
  /-- STATUS, 3 bits (R29). -/
  status   : Code
  /-- RSP_VALID (R30). -/
  rspValid : Bool
  /-- SYNC[0], nearest the pin (R31). -/
  sync0    : Bool
  /-- SYNC[1], the synchronized value S (R31). -/
  sync1    : Bool
  /-- ELAPSED, 32 bits (R32). -/
  elapsed  : Count
  /-- The payload byte on offer, from the tick it was read to the tick it is taken: what R159's "held until taken"
  and R38 imply (DEDUCED, log entry 7). `none`: no payload byte has been offered and not taken. -/
  held     : Option Byte
  /-- PIXBUF, the caller's buffer behind the read port (R60): cells by byte index. -/
  pixbuf   : Memory
  /-- GLYPHROM, the glyph table (R61): the cell of `(g, k)` has the address `16*g + k` (DESIGN CHOICE, log entry 6). -/
  glyphRom : Memory
  /-- BUS, the events taken, in order, oldest first (R62). -/
  bus      : List Event
  /-- The levels of the input ports in this tick. -/
  pins     : Pins
  /-- What the world does in the ticks after this one, next tick first; past its end, free values (DESIGN CHOICE, log entry 3). -/
  script   : List EnvTick
  /-- The model's own count of ticks, which free values are drawn by (DESIGN CHOICE, log entry 3). -/
  tick     : Nat
  deriving DecidableEq, Repr

/-- Why a step stops. The four reasons are positions of the sequencer for which no rule gives an event; no state that
meets `BlockInv` (`Safety.lean`) raises one, and they are SAFE: the model stops where the spec says nothing
(DESIGN CHOICE, log entry 10). -/
inductive Fault where
  /-- Raised by phase WIN with IDX = 7: R27 lets IDX run from 0 to 6, and R124 has no WB(7). Safe. -/
  | windowByteIndex
  /-- Raised by phase PAY with I not below N, or above 16 in a GLYPH: R27 has `0 <= I < N` there and R150 no P(17).
  Safe. -/
  | payloadIndex
  /-- Raised by phase PAY of a GLYPH whose `(g, k)` is outside GLYPHROM, which R74 says is never read. Safe. -/
  | glyphRomRange
  /-- Raised by phase PAY when OP is not FILL, RAWBUF or GLYPH: R159 gives a payload to these three. Safe. -/
  | payloadOperation
  deriving DecidableEq, Repr

/-- Why a step refuses. -/
inductive Refusal where
  /-- Raised by `exec` for an instruction that has no meaning yet; no arm raises it. Safe. -/
  | notModelled (mnemonic : String)
  deriving DecidableEq, Repr

/-- The state right after the block's reset, R44, R240.

From the spec: PH = IDLE, RSP_VALID = 0, STATUS = 0, SYNC = 00, and `pstate` Uninitialized. The OPEN parameters are
free values (log entry 1). The registers the spec leaves unspecified are 0 (DESIGN CHOICE, log entry 4), and so are the
other input levels (log entry 3); BUS, PIXBUF and GLYPHROM list nothing (log entries 5, 6). -/
def State.reset : State where
  cfg := Config.default152
  lat := { op := 0, color := false, present := false, arg := 0, x := 0, y := 0, w := 0, h := 0 }
  win := { hs := 0, he := 0, vs := 0, ve := 0 }
  ph := .idle
  idx := 0
  n := 0
  i := 0
  status := .ok
  rspValid := false
  sync0 := false
  sync1 := false
  elapsed := 0
  held := none
  pixbuf := []
  glyphRom := []
  bus := []
  pins := { rst := false, reqValid := false, reqDesc := 0, pstate := .uninitialized, rdyLine := false, evReady := false }
  script := []
  tick := 0

end Sys2Proof.Machine
end

