-- ==== Sys2Proof/Machine/Ops.lean ====
section
/-! DEFINITION. The named operations over the memory spaces and the registers: every write of a register goes
through one of these. Rejection (`State.raise`) is here, written once (`spec/60_exceptions.md` R208). -/

namespace Sys2Proof.Machine

/-! ### The spaces PIXBUF and GLYPHROM, R60, R61, R70 -/

/-- The byte listed at an address. -/
def Memory.read : Memory → Nat → Option Byte
  | [], _ => none
  | c :: m, a => if c.1 = a then some c.2 else Memory.read m a

/-- Put a byte at an address; the order of the cells stays strictly rising. The block writes neither space (R60, R61):
this is for the world that fills them. -/
def Memory.write : Memory → Nat → Byte → Memory
  | [], a, b => [(a, b)]
  | c :: m, a, b => if a < c.1 then (a, b) :: c :: m else if a = c.1 then (a, b) :: m else c :: Memory.write m a b

/-- Every address of the list is at least `lo` and they rise strictly. -/
def Memory.risingFrom : Nat → Memory → Bool
  | _, [] => true
  | lo, c :: m => lo ≤ c.1 && Memory.risingFrom (c.1 + 1) m

/-- The canonical form: addresses strictly rising. An unlisted address has no value of the space's own, so no entry can
equal it. -/
def Memory.wf (m : Memory) : Bool := Memory.risingFrom 0 m

/-- The cells of a sequence of bytes from index `k` on. -/
def Memory.ofBytesFrom (k : Nat) : List Byte → Memory
  | [] => []
  | b :: bs => (k, b) :: Memory.ofBytesFrom (k + 1) bs

/-- The space that holds a sequence of bytes indexed from 0 (R60). -/
def Memory.ofBytes (bs : List Byte) : Memory := Memory.ofBytesFrom 0 bs

/-- The address of `(g, k)` in GLYPHROM: the read port's wires `{gl_g, gl_k}` as one number (R39, log entry 6). -/
def glyphAddr (g k : Nat) : Nat := 16 * g + k

/-- `BufRead(i)`, R14: the caller's byte, or, where the caller's buffer holds none, a free value (U16, log entry 5). -/
def State.bufRead (s : State) (i : Nat) : Byte :=
  (s.pixbuf.read i).getD (Config.freePixByte s.tick i)

/-- `GlyphRead(g, k)` inside the table: the listed byte, or the block's own constant (R61, log entry 6). -/
def State.glyphByte (s : State) (g k : Nat) : Byte :=
  (s.glyphRom.read (glyphAddr g k)).getD (Config.glyphRomByte g k)

/-- `GlyphRead(g, k)`, R14: defined for `0 <= g < GLYPH_N` and `0 <= k < 13` (R61, R73); never made outside (R74). -/
def State.glyphRead (s : State) (g k : Nat) : Except Fault Byte :=
  if g < s.cfg.glyphN ∧ k < Config.glyphRows then .ok (s.glyphByte g k) else .error .glyphRomRange

/-! ### The registers -/

/-- Acceptance's writes: `RSP_VALID <- 0`, then all the latches at once (R93 (1), (2)). -/
def State.latch (s : State) (o : Operands) : State := { s with rspValid := false, lat := o }

/-- The four window registers, in one step (R24). -/
def State.setWindow (s : State) (w : WindowRect) : State := { s with win := w }

/-- The end of a request: `STATUS <- c`, `RSP_VALID <- 1`, `PH <- IDLE` (R29, R30). -/
def State.respond (s : State) (c : Code) : State := { s with status := c, rspValid := true, ph := .idle }

/-- `raise <Code>` at acceptance, R208: the response and nothing else. There is no vector, no handler and no saved
context, and so no return from it (R210). -/
def State.raise (s : State) (c : Code) : State := s.respond c

/-- Completion with OK. -/
def State.complete (s : State) : State := s.respond .ok

/-- Start of a framed operation with `n` payload bytes: write N, `PH <- PTIN` (R155). -/
def State.startFrame (s : State) (n : Nat) : State := { s with n := BitVec.ofNat 16 n, ph := .ptin }

/-- Start of CLEAR: `PH <- C1CMD` (R163). -/
def State.startClear (s : State) : State := { s with ph := .c1cmd }

/-- Start of WAITREADY: `ELAPSED <- 0`, `PH <- POLL` (R185). -/
def State.startPoll (s : State) : State := { s with elapsed := 0, ph := .poll }

/-- `PH <- p` (R14). -/
def State.goto (s : State) (p : Phase) : State := { s with ph := p }

/-- The collaborator takes event `e`: it is appended to BUS (R38, R62), and no payload byte is held any more. -/
def State.taken (s : State) (e : Event) : State := { s with bus := s.bus ++ [e], held := none }

/-- A payload byte is offered and not taken: it is held (R38, R159). -/
def State.hold (s : State) (b : Byte) : State := { s with held := some b }

/-! ### The end of a tick -/

/-- The Power State of the two wires `pstate[1:0]`, R34. -/
def PowerState.ofBits (b : BitVec 2) : PowerState :=
  if b = 0 then .uninitialized else if b = 1 then .ready else if b = 2 then .sleeping else .reserved

/-- The levels of the input ports in a tick the script does not reach: free values (log entry 3). -/
def Pins.free (t : Nat) : Pins where
  rst := Config.freeRst t
  reqValid := Config.freeReqValid t
  reqDesc := Config.freeReqDesc t
  pstate := PowerState.ofBits (Config.freePstate t)
  rdyLine := Config.freeRdyLine t
  evReady := Config.freeEvReady t

/-- What the world does in the next tick: the head of the script, or free values. -/
def State.nextEnv (s : State) : EnvTick :=
  match s.script with
  | e :: _ => e
  | [] => { pins := Pins.free (s.tick + 1), buffer := Config.freeBuffer (s.tick + 1) }

/-- The next tick begins: its levels stand at the ports, and the buffer the caller presents is behind the read port. -/
def State.nextTick (s : State) : State :=
  { s with
    pins := s.nextEnv.pins
    pixbuf := match s.nextEnv.buffer with
      | some bs => Memory.ofBytes bs
      | none => s.pixbuf
    script := s.script.tail
    tick := s.tick + 1 }

/-- `SYNC[1] <- SYNC[0]`, `SYNC[0] <- rdy_line`, both from the values before the tick (R31, R181). -/
def State.shiftSync (s : State) : State := { s with sync1 := s.sync0, sync0 := s.pins.rdyLine }

/-- What every tick with `rst = 0` ends with, whatever the block did: the synchronizer shifts (R31), and the next tick
begins. -/
def State.endTick (s : State) : State := s.shiftSync.nextTick

/-- The registers after a tick with `rst = 1`, R44, R240: those the spec gives a value have it, the others have free values
(log entry 4). BUS, the configuration and the two read spaces are no registers of the block and stay. -/
def State.resetRegs (s : State) : State :=
  { s with
    ph := .idle
    rspValid := false
    status := .ok
    sync0 := false
    sync1 := false
    held := none
    elapsed := Config.unspecElapsed s.tick
    lat :=
      { op := Config.unspecOp s.tick, color := Config.unspecColor s.tick, present := Config.unspecPresent s.tick,
        arg := Config.unspecArg s.tick, x := Config.unspecX s.tick, y := Config.unspecY s.tick,
        w := Config.unspecW s.tick, h := Config.unspecH s.tick }
    win :=
      { hs := Config.unspecHS s.tick, he := Config.unspecHE s.tick, vs := Config.unspecVS s.tick,
        ve := Config.unspecVE s.tick }
    n := Config.unspecN s.tick
    i := Config.unspecI s.tick
    idx := Config.unspecIdx s.tick }

end Sys2Proof.Machine
end

