-- ==== Sys2Proof/Machine/Operands.lean ====
section
/-! DEFINITION. What the operands of a request stand for: the window of a rectangle (`spec/40_window.md` R120 to R124),
the payload length (`spec/41_draw.md` R143) and the payload bytes (R145, R147, R149, R150). -/

namespace Sys2Proof.Machine

/-! ### The window -/

/-- Horizontal start: `x & 0xFFF8`, R120. -/
def horizontalStart (x : Word) : Word := x &&& 0xFFF8

/-- Horizontal end: `((hs + width - 1) mod 2^16) | 0x0007`, R121, with the quantised start (R131, D33). -/
def horizontalEnd (x width : Word) : Word := (horizontalStart x + width - 1) ||| 0x0007

/-- Vertical end: `(y + height - 1) mod 2^16`, R123. -/
def verticalEnd (y height : Word) : Word := y + height - 1

/-- ComputeWindow, R122: total, no check, no clamping. -/
def computeWindow (x y width height : Word) : WindowRect where
  hs := horizontalStart x
  he := horizontalEnd x width
  vs := y
  ve := verticalEnd y height

/-- `zext_8(v[8])`, the high byte of a vertical bound, R124. -/
def highByte (v : Word) : Byte := (v.extractLsb' 8 1).setWidth 8

/-- The low byte of a window register, R124. -/
def lowByte (v : Word) : Byte := v.setWidth 8

/-- The seven window bytes WB(0) to WB(6), R124, R99: not registers but a function of them (R25). -/
def windowBytes (c : Config) (w : WindowRect) : List Byte :=
  [lowByte w.hs, lowByte w.he, highByte w.vs, lowByte w.vs, highByte w.ve, lowByte w.ve, c.scanByte]

/-- WB(k); there is none for `k = 7`. -/
def windowByte (c : Config) (w : WindowRect) (k : Nat) : Option Byte := (windowBytes c w)[k]?

/-! ### Payload lengths, exact naturals, R143 -/

/-- `ceil(a / 8)`, R13. -/
def ceilDiv8 (a : Nat) : Nat := (a + 7) / 8

/-- FILL: `ceil(W/8) * H`. -/
def fillLength (w h : Word) : Nat := ceilDiv8 w.toNat * h.toNat

/-- RAWBUF: `floor(W/8) * H`, the buffer present or absent. -/
def rawLength (w h : Word) : Nat := w.toNat / 8 * h.toNat

/-- GLYPH: 17. -/
def glyphLength : Nat := Config.glyphBytes

/-! ### Payload bytes -/

/-- The glyph index `g = ARG - 32`, R96, R149: exact, after the range check. -/
def glyphIndex (code : Byte) : Nat := code.toNat - Config.glyphBase

/-- The margin byte M, R150. -/
def glyphMarginByte (color : Bool) : Byte := if color then 0x00 else 0xFF

/-- A content byte as it is sent, R150: as stored in colour 1, complemented in colour 0. -/
def glyphContent (color : Bool) (stored : Byte) : Byte := if color then stored else ~~~ stored

/-- P(j) of GLYPH, R150: two margin bytes, the thirteen content bytes in ascending storage index, two margin bytes. -/
def State.glyphPayload (s : State) (j : Nat) : Except Fault Byte :=
  if j < Config.glyphMargin then .ok (glyphMarginByte s.lat.color)
  else if j < Config.glyphMargin + Config.glyphRows then
    (s.glyphRead (glyphIndex s.lat.arg) (j - Config.glyphMargin)).map (glyphContent s.lat.color)
  else if j < Config.glyphBytes then .ok (glyphMarginByte s.lat.color)
  else .error .payloadIndex

/-- P(j) of RAWBUF, R147: the caller's byte, verbatim, or 0x00 when no buffer is supplied. -/
def State.rawPayload (s : State) (j : Nat) : Byte := if s.lat.present then s.bufRead j else 0x00

/-- P(I) of the running operation, chosen by OP (R159). -/
def State.payloadByte (s : State) : Except Fault Byte :=
  if s.i.toNat < s.n.toNat then
    match s.lat.op.toNat with
    | 2 => .ok s.lat.arg
    | 3 => .ok (s.rawPayload s.i.toNat)
    | 4 => s.glyphPayload s.i.toNat
    | _ => .error .payloadOperation
  else .error .payloadIndex

end Sys2Proof.Machine
end

