-- ==== Sys2Proof/Machine/Flags.lean ====
section
/-! DEFINITION. The checks of a request in their order (`spec/60_exceptions.md` R203 to R206) and the poll of the busy
gate (`spec/42_busy_gate.md` R186): everything that decides STATUS. -/

namespace Sys2Proof.Machine

/-- The three-bit number of a response code, R200. -/
def Code.toBits : Code → BitVec 3
  | .ok => 0
  | .invalidState => 1
  | .invalidGlyph => 2
  | .invalidGeometry => 3
  | .deviceTimeout => 4
  | .deviceFault => 5
  | .invalidOp => 6

/-- GeomOk, R206: exact natural arithmetic; the horizontal test is on bytes (D14). -/
def geomOk (c : Config) (x y w h : Word) : Bool :=
  1 ≤ w.toNat && 1 ≤ h.toNat && x.toNat - x.toNat % 8 + w.toNat ≤ 8 * c.byteW && y.toNat + h.toNat ≤ c.panelH

/-- The glyph table holds the code, R205: `32 <= ARG < 32 + GLYPH_N`. -/
def glyphOk (c : Config) (code : Byte) : Bool :=
  Config.glyphBase ≤ code.toNat && code.toNat < Config.glyphBase + c.glyphN

/-- The Power State permits a draw, R204, R220. -/
def PowerState.permitsDraw : PowerState → Bool
  | .ready => true
  | .uninitialized => false
  | .sleeping => false
  | .reserved => false

/-- The first check that fails decides the code; later checks are not made (R203). -/
def firstFailure : List (Bool × Code) → Option Code
  | [] => none
  | (passes, c) :: rest => if passes then firstFailure rest else some c

/-- The checks of WINDOW after InvalidOp: none (R203, D13). -/
def checkWindow (_ : State) : Option Code := none

/-- The checks of FILL after InvalidOp, R203. -/
def checkFill (s : State) : Option Code :=
  firstFailure
    [(s.pins.pstate.permitsDraw, .invalidState),
     (geomOk s.cfg s.lat.x s.lat.y s.lat.w s.lat.h, .invalidGeometry)]

/-- The checks of RAWBUF after InvalidOp, R203. -/
def checkRawbuf (s : State) : Option Code :=
  firstFailure
    [(s.pins.pstate.permitsDraw, .invalidState),
     (geomOk s.cfg s.lat.x s.lat.y s.lat.w s.lat.h, .invalidGeometry)]

/-- The checks of GLYPH after InvalidOp, R203: the code before the geometry (D15). -/
def checkGlyph (s : State) : Option Code :=
  firstFailure
    [(s.pins.pstate.permitsDraw, .invalidState),
     (glyphOk s.cfg s.lat.arg, .invalidGlyph),
     (geomOk s.cfg s.lat.x s.lat.y Config.glyphWinW Config.glyphWinH, .invalidGeometry)]

/-- The checks of CLEAR after InvalidOp, R203. -/
def checkClear (s : State) : Option Code :=
  firstFailure [(s.pins.pstate.permitsDraw, .invalidState)]

/-- The checks of WAITREADY after InvalidOp: none (R203, D13). -/
def checkWaitready (_ : State) : Option Code := none

/-- The check of a reserved descriptor: InvalidOp, before everything else (R202). -/
def checkReserved (_ : State) : Option Code := some .invalidOp

/-- One poll, R186: ready is looked at before expiry (R213 (b)). -/
def State.poll (s : State) : State :=
  if s.sync1 then s.complete
  else if s.elapsed = s.lat.tmo then s.respond .deviceTimeout
  else { s with elapsed := s.elapsed + 1 }

end Sys2Proof.Machine
end

