-- ==== Sys2Proof/Machine/Sequencer.lean ====
section
/-! DEFINITION. The sequencer (`spec/41_draw.md` R155 to R168, `spec/42_busy_gate.md` R186): what a tick does while an
operation runs, and the one shape of acceptance (`spec/30_encoding.md` R93). One tick makes at most one transition. -/

namespace Sys2Proof.Machine

/-- The event on offer at the event port in this tick (R38, R155 to R168); `none` in IDLE and POLL. The payload byte is
read in the tick it is first offered and held until taken (R159). -/
def State.offered (s : State) : Except Fault (Option Event) :=
  match s.ph with
  | .idle => .ok none
  | .poll => .ok none
  | .ptin => .ok (some (.cmd s.cfg.opPtin))
  | .ptl => .ok (some (.cmd s.cfg.opPtl))
  | .win =>
    match windowByte s.cfg s.win s.idx.toNat with
    | some b => .ok (some (.data b))
    | none => .error .windowByteIndex
  | .dtm => .ok (some (.cmd s.cfg.opDtm2))
  | .pay =>
    match s.held with
    | some b => .ok (some (.data b))
    | none => s.payloadByte.map fun b => some (.data b)
  | .settle => .ok (some (.delay s.cfg.tSettle))
  | .ptout => .ok (some (.cmd s.cfg.opPtout))
  | .c1cmd => .ok (some (.cmd s.cfg.opDtm1))
  | .c1data => .ok (some (.data 0xFF))
  | .c1dly => .ok (some (.delay s.cfg.tSettle))
  | .c2cmd => .ok (some (.cmd s.cfg.opDtm2))
  | .c2data => .ok (some (.data 0xFF))
  | .c2dly => .ok (some (.delay s.cfg.tSettle))

/-- `I <- I + 1`, and if the new I is N then `PH <- p` (R159, R166). -/
def State.countByte (s : State) (p : Phase) : State :=
  let s := { s with i := s.i + 1 }
  if s.i = s.n then s.goto p else s

/-- Entry to a clear phase's data: `N <- PANEL_BYTES`, `I <- 0`, `PH <- p` (R165). -/
def State.startClearData (s : State) (p : Phase) : State :=
  { s with n := BitVec.ofNat 16 s.cfg.panelBytes, i := 0, ph := p }

/-- The transition made when the offered event is taken. -/
def State.advance (s : State) : State :=
  match s.ph with
  | .idle => s
  | .poll => s
  -- R156
  | .ptin => s.goto .ptl
  | .ptl => { s with idx := 0, ph := .win }
  -- R157
  | .win => if s.idx = 6 then s.goto .dtm else { s with idx := s.idx + 1 }
  -- R158
  | .dtm => { s with i := 0, ph := if s.n = 0 then .settle else .pay }
  -- R159
  | .pay => s.countByte .settle
  -- R160
  | .settle => s.goto .ptout
  -- R161
  | .ptout => s.complete
  -- R165
  | .c1cmd => s.startClearData .c1data
  -- R166
  | .c1data => s.countByte .c1dly
  -- R167
  | .c1dly => s.goto .c2cmd
  -- R165
  | .c2cmd => s.startClearData .c2data
  -- R166
  | .c2data => s.countByte .c2dly
  -- R168
  | .c2dly => s.complete

/-- An event is offered and not taken: nothing changes (R38); a payload byte is held. -/
def State.stall (s : State) (e : Event) : State :=
  match s.ph, e with
  | .pay, .data b => s.hold b
  | _, _ => s

/-- The handshake of the event port in this tick: taken exactly when `ev_ready = 1` (R38). -/
def State.handshake (s : State) (e : Event) : State :=
  if s.pins.evReady then (s.taken e).advance else s.stall e

/-- What a tick does to the registers and to BUS when no request is accepted in it: nothing in IDLE, a poll in POLL, and
otherwise the handshake of the event on offer. -/
def State.runTick (s : State) : Host.Outcome State Fault Refusal :=
  match s.ph with
  | .idle => .next s
  | .poll => .next s.poll
  | _ =>
    match s.offered with
    | .ok (some e) => .next (s.handshake e)
    | .ok none => .next s
    | .error f => .fault f

/-- What a tick with `rst = 1` does to BUS. An event taken in that very tick stays taken (R38, R241; DEDUCED, log entry 8);
one offered and not taken is withdrawn. -/
def State.resetBus (s : State) : State :=
  match s.offered with
  | .ok (some e) => if s.pins.evReady then s.taken e else s
  | _ => s

/-- A tick with `rst = 1`, R240, R241: whatever the block was doing. -/
def State.resetTick (s : State) : State := s.resetBus.resetRegs.nextTick

/-- Acceptance of a request, R93, all in one tick: clear RSP_VALID, latch every field, run the checks in their order,
then reject (R208) or start. -/
def State.accept (s : State) (o : Operands) (check : State → Option Code) (start : State → State) : State :=
  let s := s.latch o
  match check s with
  | some c => s.raise c
  | none => start s

/-- A tick in which a request stands at the request port (`req_valid = 1`). It is accepted exactly when `PH = IDLE`
(R36); otherwise it is not recorded and the running operation goes on (R213 (c), R162). -/
def State.offerRequest (s : State) (o : Operands) (check : State → Option Code) (start : State → State) :
    Host.Outcome State Fault Refusal :=
  match s.ph with
  | .idle => .next (s.accept o check start)
  | _ => s.runTick

end Sys2Proof.Machine
end

