-- ==== Sys2Proof/Machine/Draw.lean ====
section
/-! DEFINITION. FILL, RAWBUF, GLYPH and CLEAR (`spec/41_draw.md` R145, R147, R149, R152). A meaning is the tick in
which the request stands at the port; the ticks after it are the sequencer's (`State.runTick`). -/

namespace Sys2Proof.Machine

/-- After the checks of FILL: the window of the rectangle (R141), N, `PH <- PTIN` (R155). -/
def startFill (s : State) : State :=
  (s.setWindow (computeWindow s.lat.x s.lat.y s.lat.w s.lat.h)).startFrame (fillLength s.lat.w s.lat.h)

/-- After the checks of RAWBUF: the window of the rectangle (R141), N, `PH <- PTIN` (R155). -/
def startRawbuf (s : State) : State :=
  (s.setWindow (computeWindow s.lat.x s.lat.y s.lat.w s.lat.h)).startFrame (rawLength s.lat.w s.lat.h)

/-- After the checks of GLYPH: the window of 8 by 16 pixels at `(X, Y)` (R141), N = 17, `PH <- PTIN` (R155). -/
def startGlyph (s : State) : State :=
  (s.setWindow (computeWindow s.lat.x s.lat.y Config.glyphWinW Config.glyphWinH)).startFrame glyphLength

/-- A tick in which FILL is requested. -/
def execFill (x y w h : Word) (v : Byte) (present color : Bool) (s : State) : Host.Outcome State Fault Refusal :=
  s.offerRequest (Instr.fill x y w h v present color).operands checkFill startFill

/-- A tick in which RAWBUF is requested. -/
def execRawbuf (x y w h : Word) (present : Bool) (arg : Byte) (color : Bool) (s : State) :
    Host.Outcome State Fault Refusal :=
  s.offerRequest (Instr.rawbuf x y w h present arg color).operands checkRawbuf startRawbuf

/-- A tick in which GLYPH is requested. -/
def execGlyph (x y : Word) (code : Byte) (color : Bool) (w h : Word) (present : Bool) (s : State) :
    Host.Outcome State Fault Refusal :=
  s.offerRequest (Instr.glyph x y code color w h present).operands checkGlyph startGlyph

/-- A tick in which CLEAR is requested. -/
def execClear (x y w h : Word) (arg : Byte) (present color : Bool) (s : State) : Host.Outcome State Fault Refusal :=
  s.offerRequest (Instr.clear x y w h arg present color).operands checkClear State.startClear

end Sys2Proof.Machine
end

