-- ==== Sys2Proof/Machine/Wait.lean ====
section
/-! DEFINITION. WAITREADY (`spec/42_busy_gate.md` R184, R185). Its polls are `State.poll`. -/

namespace Sys2Proof.Machine

/-- A tick in which WAITREADY is requested. -/
def execWaitready (timeout : Count) (w h : Word) (arg : Byte) (present color : Bool) (s : State) :
    Host.Outcome State Fault Refusal :=
  s.offerRequest (Instr.waitready timeout w h arg present color).operands checkWaitready State.startPoll

end Sys2Proof.Machine
end

