-- ==== Sys2Proof/Machine/Window.lean ====
section
/-! DEFINITION. WINDOW (`spec/40_window.md` R127). -/

namespace Sys2Proof.Machine

/-- After the checks: ComputeWindow on the latches, and the response, in the tick of acceptance (R127). -/
def startWindow (s : State) : State :=
  (s.setWindow (computeWindow s.lat.x s.lat.y s.lat.w s.lat.h)).complete

/-- A tick in which WINDOW is requested. -/
def execWindow (x y w h : Word) (arg : Byte) (present color : Bool) (s : State) : Host.Outcome State Fault Refusal :=
  s.offerRequest (Instr.window x y w h arg present color).operands checkWindow startWindow

end Sys2Proof.Machine
end

