-- ==== Sys2Proof/Machine/Dispatch.lean ====
section
/-! DEFINITION. One arm per instruction: a tick in which that request stands at the request port. -/

namespace Sys2Proof.Machine

def exec (i : Instr) (s : State) : Host.Outcome State Fault Refusal :=
  match i with
  | .window x y w h arg present color => Sys2Proof.Machine.execWindow x y w h arg present color s
  | .fill x y w h v present color => Sys2Proof.Machine.execFill x y w h v present color s
  | .rawbuf x y w h present arg color => Sys2Proof.Machine.execRawbuf x y w h present arg color s
  | .glyph x y code color w h present => Sys2Proof.Machine.execGlyph x y code color w h present s
  | .clear x y w h arg present color => Sys2Proof.Machine.execClear x y w h arg present color s
  | .waitready timeout w h arg present color => Sys2Proof.Machine.execWaitready timeout w h arg present color s

end Sys2Proof.Machine
end

