-- ==== Sys2Proof/Machine/Step.lean ====
section
/-! DEFINITION. One step is one tick (`spec/00_scope.md` R16; log entry 2). -/

namespace Sys2Proof.Machine

/-- The next state of an outcome, changed; a stop stays a stop. -/
def onNext (f : State → State) : Host.Outcome State Fault Refusal → Host.Outcome State Fault Refusal
  | .next s => .next (f s)
  | .fault r => .fault r
  | .refused r => .refused r

/-- What a tick with `rst = 0` does to the registers and to BUS, but for the synchronizer: with a request at the port the
request's meaning, or for a reserved descriptor its rejection (R93, R94); without one, the running operation's tick. -/
def State.blockTick (s : State) : Host.Outcome State Fault Refusal :=
  if s.pins.reqValid then
    match decode s.pins.reqDesc with
    | .ok i => exec i s
    | .error _ => s.offerRequest (Descriptor.operands s.pins.reqDesc) checkReserved id
  else s.runTick

/-- One tick: the reset, or the block's tick and the shift of the synchronizer; then the next tick's inputs stand. -/
def step (s : State) : Host.Outcome State Fault Refusal :=
  if s.pins.rst then .next s.resetTick else onNext State.endTick s.blockTick

/-- The state with the request of bits `w` at the request port of an idle block, not in reset, so that the very next step
accepts exactly it (R36; DESIGN CHOICE, log entry 9). -/
def State.withFetchWord (s : State) (nbits w : Nat) : State :=
  { s with
    ph := .idle
    held := none
    pins := { s.pins with rst := false, reqValid := true, reqDesc := tableDescriptor nbits w } }

end Sys2Proof.Machine
end

