-- ==== Sys2Proof/Machine/Environment.lean ====
section
/-! DEFINITION. The contract of the collaborators as far as the spec gives it (`spec/60_exceptions.md` R220 to R224,
`spec/30_encoding.md` R102, R111). None of it is an action of the block (log entry 13) and no step reads it: the scope (R4)
leaves the Controller State Machine out. It is written here because it says when `pstate` changes and when WAITREADY is issued. -/

namespace Sys2Proof.Machine

/-- The calls of the Controller State Machine, R111. -/
inductive CsmCall where
  | resetCall | initCall | refreshCall | sleepCall
  deriving DecidableEq, Repr

/-- The commands of the controller that the block never emits, R102. Their values are not in the spec (N14). -/
inductive CsmCommand where
  | boosterSoftStart | powerSetting | powerOn | panelSetting | resolution | vcomDataInterval | vcmDcSetting
  | displayRefresh | powerOff | deepSleep
  deriving DecidableEq, Repr

/-- One action inside a call, R221 to R224. -/
inductive CsmAction where
  /-- The controller's reset line, low or high, held for at least `ms` milliseconds (R221). -/
  | resetLine (high : Bool) (ms : Nat)
  /-- The idle line levels are set (R222). -/
  | idleLevels
  /-- A command with the payload the table or the call gives it. -/
  | command (c : CsmCommand)
  /-- One WAITREADY request to the block. -/
  | waitReady
  /-- The fixed settle delay of refresh, about `ms` milliseconds (R223). -/
  | settle (ms : Nat)
  deriving DecidableEq, Repr

/-- The sequence of a call, in its fixed order: R221, R222, R223, R224. -/
def CsmCall.actions : CsmCall → List CsmAction
  | .resetCall => [.resetLine false 200, .resetLine true 200]
  | .initCall =>
    [.idleLevels, .resetLine false 200, .resetLine true 200,
     .command .boosterSoftStart, .command .powerSetting, .command .powerOn, .waitReady,
     .command .panelSetting, .command .resolution, .command .vcomDataInterval, .command .vcmDcSetting]
  | .refreshCall => [.command .displayRefresh, .settle 100, .waitReady]
  | .sleepCall => [.command .powerOff, .waitReady, .command .deepSleep]

/-- The Power States a completed call may leave, R220 to R224. Ready is reached only by `initialize()` and Sleeping only by
`sleep()` (R220); whether `reset()` alone leaves the state it found or Uninitialized is not in the spec (N15), so both are
allowed and nothing else (DEDUCED, log entry 13). `refresh()` outside Ready is InvalidState and changes nothing (R223); `sleep()` is a transition
from Ready (R224). -/
def CsmCall.mayLeave (c : CsmCall) (before after : PowerState) : Bool :=
  match c with
  | .resetCall => decide (after = before) || decide (after = .uninitialized)
  | .initCall => decide (after = .ready)
  | .refreshCall => decide (after = before)
  | .sleepCall => decide (before = .ready) && decide (after = .sleeping)

end Sys2Proof.Machine
end

