-- ==== Sys2Proof/Machine/Ports.lean ====
section
/-! DEFINITION. The output ports as functions of the state in a tick (`spec/10_state.md` R36 to R39). Where the spec
calls an output unspecified the function answers `none`: it gives no value, and nothing reads one (U12; log entry 11). -/

namespace Sys2Proof.Machine

/-- `req_ready`: 1 exactly when `PH = IDLE`, R36. -/
def State.reqReady (s : State) : Bool := decide (s.ph = .idle)

/-- `rsp_valid`, R37. -/
def State.rspValidPort (s : State) : Bool := s.rspValid

/-- `rsp_code[2:0]`, R37. -/
def State.rspCode (s : State) : BitVec 3 := s.status.toBits

/-- `{WB(6), .., WB(0)}`, R37. -/
def packWindowBytes (c : Config) (w : WindowRect) : BitVec 56 :=
  c.scanByte ++ lowByte w.ve ++ highByte w.ve ++ lowByte w.vs ++ highByte w.vs ++ lowByte w.he ++ lowByte w.hs

/-- `rsp_win[55:0]`, R37: meaningful only with a response of OK to WINDOW, FILL, RAWBUF or GLYPH. The last request is the
one in the latches. -/
def State.rspWin (s : State) : Option (BitVec 56) :=
  if s.rspValid ∧ s.status = .ok ∧ 1 ≤ s.lat.op.toNat ∧ s.lat.op.toNat ≤ 4 then some (packWindowBytes s.cfg s.win)
  else none

/-- `ev_valid`: 1 exactly in the phases that offer an event, R38. -/
def State.evValid (s : State) : Bool := !decide (s.ph = .idle) && !decide (s.ph = .poll)

/-- `ev_kind` of an event, R38: 3 is never driven. -/
def Event.kind : Event → BitVec 2
  | .cmd _ => 0
  | .data _ => 1
  | .delay _ => 2

/-- `ev_byte` of an event, R38: unspecified for a Delay. -/
def Event.byte : Event → Option Byte
  | .cmd b => some b
  | .data b => some b
  | .delay _ => none

/-- The event on the event port in this tick, if one is offered. -/
def State.event (s : State) : Option Event :=
  match s.offered with
  | .ok e => e
  | .error _ => none

/-- `buf_idx`, R39: driven with I in PAY of RAWBUF with `PRESENT = 1`; unspecified at all other times. -/
def State.bufIdx (s : State) : Option Nat :=
  if s.ph = .pay ∧ s.lat.op = 3 ∧ s.lat.present then some s.i.toNat else none

/-- `(gl_g, gl_k)`, R39, R150: driven with `(ARG - 32, I - 2)` in PAY of GLYPH with `2 <= I <= 14`. -/
def State.glyphIdx (s : State) : Option (Nat × Nat) :=
  if s.ph = .pay ∧ s.lat.op = 4 ∧ 2 ≤ s.i.toNat ∧ s.i.toNat ≤ 14 then some (glyphIndex s.lat.arg, s.i.toNat - 2)
  else none

/-- The index of the PIXBUF read made in this tick: a byte is read in the tick it is first offered (R159, R72). -/
def State.bufReads (s : State) : Option Nat := if s.held = none then s.bufIdx else none

/-- The place of the GLYPHROM read made in this tick (R159, R72). -/
def State.glyphReads (s : State) : Option (Nat × Nat) := if s.held = none then s.glyphIdx else none

end Sys2Proof.Machine
end

