-- ==== Sys2Proof/Machine/Trace.lean ====
section
/-! DEFINITION. The traces of the operations (`spec/41_draw.md` sections 1 to 3): the whole list of events each emits.
These are the normative description of what leaves the block (R169); the sequencer refines them, and the statements
`…EmitsItsTrace` say that it does. They are written from R140, R150 and R152 alone and share with the sequencer only the
window bytes. -/

namespace Sys2Proof.Machine

/-- `Frame(P, N)`, R140. -/
def frame (c : Config) (w : WindowRect) (p : Nat → Byte) (n : Nat) : List Event :=
  [.cmd c.opPtin, .cmd c.opPtl]
    ++ (windowBytes c w).map .data
    ++ [.cmd c.opDtm2]
    ++ (List.range n).map (fun i => .data (p i))
    ++ [.delay c.tSettle, .cmd c.opPtout]

/-- The trace of FILL, R145. -/
def fillTrace (c : Config) (x y w h : Word) (v : Byte) : List Event :=
  frame c (computeWindow x y w h) (fun _ => v) (fillLength w h)

/-- The trace of RAWBUF with a buffer whose bytes are `buf`, R147. -/
def rawTrace (c : Config) (x y w h : Word) (buf : Nat → Byte) : List Event :=
  frame c (computeWindow x y w h) buf (rawLength w h)

/-- The trace of RAWBUF without a buffer, R147. -/
def blankTrace (c : Config) (x y w h : Word) : List Event :=
  frame c (computeWindow x y w h) (fun _ => 0x00) (rawLength w h)

/-- The seventeen payload bytes of GLYPH for the stored rows `row k`, R150. -/
def glyphPayloadBytes (row : Nat → Byte) (color : Bool) : List Byte :=
  let margin : Byte := if color then 0x00 else 0xFF
  [margin, margin]
    ++ (List.range 13).map (fun k => if color then row k else ~~~ row k)
    ++ [margin, margin]

/-- The trace of GLYPH, R149. -/
def glyphTrace (c : Config) (x y : Word) (row : Nat → Byte) (color : Bool) : List Event :=
  frame c (computeWindow x y 8 16) (fun i => (glyphPayloadBytes row color).getD i 0) 17

/-- The trace of CLEAR, R152. -/
def clearTrace (c : Config) : List Event :=
  [.cmd c.opDtm1] ++ List.replicate c.panelBytes (.data 0xFF) ++ [.delay c.tSettle]
    ++ [.cmd c.opDtm2] ++ List.replicate c.panelBytes (.data 0xFF) ++ [.delay c.tSettle]

end Sys2Proof.Machine
end

