-- ==== Sys2Proof/Safety.lean ====
section
/-! DEFINITION. What a good state is (`BlockInv`), what a run is, and what a run assumes of the world: the terms the
statements are made in. -/

namespace Sys2Proof.Machine

/-! ### Kinds of phase -/

/-- The phases of a framed operation: FILL, RAWBUF, GLYPH (R155 to R161). -/
def Phase.framed : Phase → Bool
  | .ptin | .ptl | .win | .dtm | .pay | .settle | .ptout => true
  | _ => false

/-- The phases of CLEAR (R164). -/
def Phase.clearing : Phase → Bool
  | .c1cmd | .c1data | .c1dly | .c2cmd | .c2data | .c2dly => true
  | _ => false

/-- Where a phase stands in the order its operation passes through them (R28, R164). -/
def Phase.rank : Phase → Nat
  | .idle => 0
  | .ptin => 1 | .ptl => 2 | .win => 3 | .dtm => 4 | .pay => 5 | .settle => 6 | .ptout => 7
  | .c1cmd => 1 | .c1data => 2 | .c1dly => 3 | .c2cmd => 4 | .c2data => 5 | .c2dly => 6
  | .poll => 1

/-! ### The invariant -/

/-- A framed operation runs: the latches hold a checked FILL, RAWBUF or GLYPH, and the window registers and N are that
request's (R141, R143, R203). -/
def framedInv (s : State) : Prop :=
  (s.lat.op = 2 ∧ geomOk s.cfg s.lat.x s.lat.y s.lat.w s.lat.h = true ∧
    s.win = computeWindow s.lat.x s.lat.y s.lat.w s.lat.h ∧ s.n.toNat = fillLength s.lat.w s.lat.h) ∨
  (s.lat.op = 3 ∧ geomOk s.cfg s.lat.x s.lat.y s.lat.w s.lat.h = true ∧
    s.win = computeWindow s.lat.x s.lat.y s.lat.w s.lat.h ∧ s.n.toNat = rawLength s.lat.w s.lat.h) ∨
  (s.lat.op = 4 ∧ glyphOk s.cfg s.lat.arg = true ∧
    geomOk s.cfg s.lat.x s.lat.y Config.glyphWinW Config.glyphWinH = true ∧
    s.win = computeWindow s.lat.x s.lat.y Config.glyphWinW Config.glyphWinH ∧ s.n.toNat = glyphLength)

/-- The invariant of the block: what holds in every state a run from a legal configuration reaches. -/
structure BlockInv (s : State) : Prop where
  /-- The parameters are legal (R12, R8). -/
  cfg_legal : s.cfg.legal = true
  /-- The spaces are in canonical form (log entry 5). -/
  pixbuf_wf : Memory.wf s.pixbuf = true
  glyphRom_wf : Memory.wf s.glyphRom = true
  /-- In a framed phase the latches, the window and N belong to one checked request. -/
  framed : s.ph.framed = true → framedInv s
  /-- In WIN, IDX runs from 0 to 6 (R27). -/
  win_idx : s.ph = .win → s.idx.toNat ≤ 6
  /-- In PAY, `0 <= I < N` (R27). -/
  pay_index : s.ph = .pay → s.i.toNat < s.n.toNat
  /-- In a phase of CLEAR, OP is CLEAR. -/
  clearing : s.ph.clearing = true → s.lat.op = 5
  /-- In a data phase of CLEAR, N is PANEL_BYTES and `0 <= I < N` (R165, R166). -/
  clear_index : s.ph = .c1data ∨ s.ph = .c2data → s.n.toNat = s.cfg.panelBytes ∧ s.i.toNat < s.n.toNat
  /-- In POLL, OP is WAITREADY and ELAPSED has not passed TMO (R32). -/
  polling : s.ph = .poll → s.lat.op = 6 ∧ s.elapsed.toNat ≤ s.lat.tmo.toNat
  /-- A payload byte is held only in PAY. -/
  held_pay : s.held ≠ none → s.ph = .pay
  /-- While an operation runs there is no response (R30). -/
  busy_no_response : s.ph ≠ .idle → s.rspValid = false

/-! ### What the world does in the ticks of a run -/

/-- What the world does `j` ticks from now: the state's own ports for `j = 0`, then the script, then free values. -/
def State.pinsAt (s : State) (j : Nat) : Pins :=
  match j with
  | 0 => s.pins
  | k + 1 =>
    match s.script[k]? with
    | some e => e.pins
    | none => Pins.free (s.tick + (k + 1))

/-- The buffer the caller presents when tick `j + 1` from now begins, if any. -/
def State.bufferAt (s : State) (j : Nat) : Option (List Byte) :=
  match s.script[j]? with
  | some e => e.buffer
  | none => Config.freeBuffer (s.tick + (j + 1))

/-- `rst = 0` in this tick and the `k - 1` after it. -/
def State.NoReset (s : State) (k : Nat) : Prop := ∀ j < k, (s.pinsAt j).rst = false

/-- The collaborator takes whatever is offered in this tick and the `k - 1` after it (R67: every offered event is taken, here
at once). -/
def State.Takes (s : State) (k : Nat) : Prop := ∀ j < k, (s.pinsAt j).evReady = true

/-- The caller keeps its buffer in this tick and the `k` after it (R256, R78). -/
def State.KeepsBuffer (s : State) (k : Nat) : Prop := ∀ j < k, s.bufferAt j = none

/-- `S(j)`: the synchronized value before the shift of tick `j` from now (R181, R182). -/
def State.syncAt (s : State) (j : Nat) : Bool :=
  match j with
  | 0 => s.sync1
  | 1 => s.sync0
  | k + 2 => (s.pinsAt k).rdyLine

/-! ### Runs -/

/-- `Ticks k s t`: `k` ticks lead from `s` to `t`. -/
inductive Ticks : Nat → State → State → Prop where
  | zero (s : State) : Ticks 0 s s
  | tick {k : Nat} {s u t : State} : step s = .next u → Ticks k u t → Ticks (k + 1) s t

/-- `Busy k s t`: `k` ticks lead from `s` to `t`, in each of which `rst = 0` and an operation runs (`PH` is not IDLE before the
tick): the ticks between the acceptance of a request and the return to IDLE, or a first part of them. -/
inductive Busy : Nat → State → State → Prop where
  | zero (s : State) : Busy 0 s s
  | tick {k : Nat} {s u t : State} :
      s.ph ≠ .idle → s.pins.rst = false → step s = .next u → Busy k u t → Busy (k + 1) s t

/-- How many of this tick and the `k - 1` after it the collaborator is ready in. -/
def State.readyTicks (s : State) (k : Nat) : Nat := ((List.range k).filter fun j => (s.pinsAt j).evReady).length

/-- The events a running operation has still to emit, by its position (R28): what is left of `Frame(P, N)` (R140) or of
CLEAR's trace (R152). -/
def State.eventsLeft (s : State) : Nat :=
  let n := s.n.toNat
  let i := s.i.toNat
  let p := s.cfg.panelBytes
  match s.ph with
  | .idle => 0
  | .poll => 0
  | .ptin => n + 12
  | .ptl => n + 11
  | .win => n + 3 + (7 - s.idx.toNat)
  | .dtm => n + 3
  | .pay => (n - i) + 2
  | .settle => 2
  | .ptout => 1
  | .c1cmd => 2 * p + 4
  | .c1data => (n - i) + p + 3
  | .c1dly => p + 3
  | .c2cmd => p + 2
  | .c2data => (n - i) + 1
  | .c2dly => 1

end Sys2Proof.Machine
end

