-- ==== Sys2Proof/Certificates/Slice0/Obligations.lean ====
section
/-! DEFINITION. The statements about the model, for the provers. Each docstring names the rules it formalises, or, where
it rests on a choice of the model, the log entry. -/

open Sys2Proof Sys2Proof.Machine

/-! ### Encoding -/

/-- Every field of every operation survives encoding and decoding (R90 to R93, R95, R96). -/
def Obligations.DecodeInvertsEncode : Prop :=
  ∀ i : Instr, decode (encode i) = .ok i

/-- A descriptor has one meaning: what decodes encodes back to the same 80 bits (R90, R91). -/
def Obligations.EncodeInvertsDecode : Prop :=
  ∀ (d : Descriptor) (i : Instr), decode d = .ok i → encode i = d

/-- R91: `req_desc & 0xCF` selects the operation. -/
def Obligations.MaskSelectsTheOperation : Prop :=
  ∀ d : Descriptor,
    (∀ k : Nat, 1 ≤ k → k ≤ 6 →
      ((d &&& 0xCF).toNat = k ↔ d.extractLsb' 6 2 = 0 ∧ (d.extractLsb' 0 4).toNat = k)) ∧
    ((d &&& 0xCF).toNat = 1 → ∃ x y w h a p c, decode d = .ok (.window x y w h a p c)) ∧
    ((d &&& 0xCF).toNat = 2 → ∃ x y w h v p c, decode d = .ok (.fill x y w h v p c)) ∧
    ((d &&& 0xCF).toNat = 3 → ∃ x y w h p a c, decode d = .ok (.rawbuf x y w h p a c)) ∧
    ((d &&& 0xCF).toNat = 4 → ∃ x y g c w h p, decode d = .ok (.glyph x y g c w h p)) ∧
    ((d &&& 0xCF).toNat = 5 → ∃ x y w h a p c, decode d = .ok (.clear x y w h a p c)) ∧
    ((d &&& 0xCF).toNat = 6 → ∃ n w h a p c, decode d = .ok (.waitready n w h a p c)) ∧
    ((∃ r, decode d = .error r) ↔ ¬ (1 ≤ (d &&& 0xCF).toNat ∧ (d &&& 0xCF).toNat ≤ 6))

/-- R94: a reserved descriptor selects no operation, is rejected with InvalidOp, emits no event, and changes no state but
the operand latches, STATUS and RSP_VALID (beside the tick's own end: the synchronizer and the next tick's inputs). -/
def Obligations.ReservedDescriptorIsRejected : Prop :=
  ∀ d : Descriptor,
    ((d.extractLsb' 0 4).toNat = 0 ∨ 7 ≤ (d.extractLsb' 0 4).toNat ∨ d.extractLsb' 6 2 ≠ 0 ↔
      ∃ r, decode d = .error r) ∧
    (∀ s : State, (∃ r, decode d = .error r) → s.ph = .idle → s.pins.rst = false → s.pins.reqValid = true →
      s.pins.reqDesc = d →
      step s = .next (State.endTick { s with lat := Descriptor.operands d, status := .invalidOp, rspValid := true }))

/-- Words written out from the table of R90 decode to the requests they stand for (one for each operation). -/
def Obligations.WordsOfTheTableDecode : Prop :=
  decode 0x000100140000000A0001 = .ok (.window 10 0 20 1 0 false false) ∧
  decode 0x000300140005000AAA02 = .ok (.fill 10 5 20 3 0xAA false false) ∧
  decode 0x00020010000000080023 = .ok (.rawbuf 8 0 16 2 true 0 false) ∧
  decode 0x0000FFFF000000004134 = .ok (.glyph 0 0 0x41 true 0xFFFF 0 true) ∧
  decode 0x00040003000200010935 = .ok (.clear 1 2 3 4 9 true true) ∧
  decode 0x00000000000123450006 = .ok (.waitready 0x12345 0 0 0 false false)

/-- R112: `drawText` is one GLYPH for each character, 8 pixels apart, in order, all other parameters identical. -/
def Obligations.TextIsOneGlyphPerCharacter : Prop :=
  ∀ (x y : Nat) (text : List Byte) (color : Bool),
    (drawText x y text color).length = text.length ∧
    ∀ (i : Nat) (c : Byte), text[i]? = some c →
      (drawText x y text color)[i]? = some (.glyph (x + 8 * i) y c.toNat color)

/-! ### The step and the request port -/

/-- A step runs the decoded request: it is `exec` of it, then the tick's end (the synchronizer shifts and the next tick's
inputs stand). Without a request an idle block only ends the tick; a busy block makes its operation's tick. -/
def Obligations.StepRunsTheRequest : Prop :=
  ∀ s : State, s.pins.rst = false →
    (∀ i, s.pins.reqValid = true → decode s.pins.reqDesc = .ok i → step s = onNext State.endTick (exec i s)) ∧
    (s.ph = .idle → s.pins.reqValid = false → step s = .next s.endTick) ∧
    (s.ph ≠ .idle → step s = onNext State.endTick s.runTick)

/-- R93: an idle block accepts every request, in the one tick, and latches every field of it, the ignored ones too; no
event leaves in that tick and the inputs are not touched. -/
def Obligations.AcceptanceLatchesEveryField : Prop :=
  ∀ (i : Instr) (s : State), s.ph = .idle →
    ∃ t, exec i s = .next t ∧ t.lat = Descriptor.operands (encode i) ∧ t.bus = s.bus ∧ t.idx = s.idx ∧ t.i = s.i ∧
      t.cfg = s.cfg ∧ t.pixbuf = s.pixbuf ∧ t.glyphRom = s.glyphRom ∧ t.pins = s.pins ∧ t.script = s.script ∧
      t.tick = s.tick ∧ t.sync0 = s.sync0 ∧ t.sync1 = s.sync1 ∧ t.held = s.held

/-- R162, R78, R34, R213 (c): nothing at the request port, no Power State and no level of the busy line changes what a
running operation does in a tick; the busy line only enters the first flop. -/
def Obligations.BusyBlockIgnoresOtherInputs : Prop :=
  ∀ (s : State) (v : Bool) (d : Descriptor) (p : PowerState) (r : Bool),
    s.ph ≠ .idle → s.pins.rst = false →
    step { s with pins := { s.pins with reqValid := v, reqDesc := d, pstate := p, rdyLine := r } } =
      onNext (fun t => { t with sync0 := r }) (step s)

/-! ### WINDOW -/

/-- R127: WINDOW answers in the tick of acceptance with `rsp_code` 0, the window of R122 and its seven bytes on `rsp_win`; it
reads no Power State, checks no geometry, emits nothing, and writes nothing else. -/
def Obligations.WindowReturnsTheWindow : Prop :=
  ∀ (s : State) (x y w h : Word) (arg : Byte) (present color : Bool), s.ph = .idle →
    let t : State :=
      { s with
        lat := { op := 1, color, present, arg, x, y, w, h }
        win := { hs := x &&& 0xFFF8, he := ((x &&& 0xFFF8) + w - 1) ||| 0x0007, vs := y, ve := y + h - 1 }
        status := .ok
        rspValid := true }
    exec (.window x y w h arg present color) s = .next t ∧
    t.rspCode = 0 ∧
    t.rspWin = some
      (s.cfg.scanByte ++ (y + h - 1).setWidth 8 ++ (((y + h - 1).extractLsb' 8 1).setWidth 8 : Byte)
        ++ y.setWidth 8 ++ ((y.extractLsb' 8 1).setWidth 8 : Byte)
        ++ (((x &&& 0xFFF8) + w - 1) ||| 0x0007).setWidth 8 ++ (x &&& 0xFFF8).setWidth 8)

/-- R125 (a) to (c), R120: for every input. -/
def Obligations.WindowFieldInvariants : Prop :=
  ∀ (c : Config) (x y w h : Word),
    let r := computeWindow x y w h
    r.hs.toNat % 8 = 0 ∧ r.hs.toNat ≤ x.toNat ∧ x.toNat - r.hs.toNat = x.toNat % 8 ∧ r.he.toNat % 8 = 7 ∧
    ∃ b0 b1 b2 b3 b4 b5, windowBytes c r = [b0, b1, b2, b3, b4, b5, c.scanByte] ∧
      b0 &&& 7 = 0 ∧ b1 &&& 7 = 7 ∧ b2.toNat ≤ 1 ∧ b4.toNat ≤ 1

/-- R126: where nothing wraps, the window is `ceil(width/8)` bytes wide, and the rectangle's last pixel lies outside it
exactly when `(x mod 8) + width > 8 * ceil(width/8)`. -/
def Obligations.WindowIsCeilOfWidthBytes : Prop :=
  ∀ x y w h : Word, 1 ≤ w.toNat → (x &&& 0xFFF8).toNat + w.toNat - 1 < 65536 →
    let r := computeWindow x y w h
    (r.he.toNat - r.hs.toNat + 1) / 8 = (w.toNat - 1) / 8 + 1 ∧
    (w.toNat - 1) / 8 + 1 = ceilDiv8 w.toNat ∧
    r.he.toNat = r.hs.toNat + 8 * ceilDiv8 w.toNat - 1 ∧
    (r.he.toNat < x.toNat + w.toNat - 1 ↔ x.toNat % 8 + w.toNat > 8 * ceilDiv8 w.toNat)

/-- R131: the reading of "start" that is taken and the one that is not give different ends exactly when
`(x mod 8) + width > 8 * ceil(width/8)` (where neither sum wraps). -/
def Obligations.TheTwoReadingsOfStart : Prop :=
  ∀ x w : Word, 1 ≤ w.toNat → x.toNat + w.toNat - 1 < 65536 →
    (horizontalEnd x w ≠ (x + w - 1) ||| 0x0007 ↔ x.toNat % 8 + w.toNat > 8 * ceilDiv8 w.toNat)

/-- R130: for a request that passes the geometry check no sum wraps, the ends lie in the panel, and the seven bytes carry
the whole rectangle: each of HS, HE, VS and VE can be read back from them. -/
def Obligations.CheckedWindowLosesNothing : Prop :=
  ∀ (c : Config) (x y w h : Word), c.legal = true → geomOk c x y w h = true →
    let r := computeWindow x y w h
    (x &&& 0xFFF8).toNat + w.toNat - 1 < 65536 ∧ y.toNat + h.toNat - 1 < 65536 ∧
    r.he.toNat ≤ 8 * c.byteW - 1 ∧ 8 * c.byteW - 1 ≤ 255 ∧ r.ve.toNat ≤ c.panelH - 1 ∧ c.panelH - 1 ≤ 511 ∧
    ∃ b0 b1 b2 b3 b4 b5, windowBytes c r = [b0, b1, b2, b3, b4, b5, c.scanByte] ∧
      b0.toNat = r.hs.toNat ∧ b1.toNat = r.he.toNat ∧
      256 * (b2.toNat % 2) + b3.toNat = r.vs.toNat ∧ 256 * (b4.toNat % 2) + b5.toNat = r.ve.toNat

/-- R128 (a), (b): the ends of an empty rectangle. -/
def Obligations.EmptyRectangleWindow : Prop :=
  ∀ x y w h : Word,
    (8 ≤ x.toNat → (computeWindow x y 0 h).he = (x &&& 0xFFF8) - 1) ∧
    (x.toNat < 8 → (computeWindow x y 0 h).he = 0xFFFF) ∧
    (computeWindow x y w 0).ve = y - 1

/-! ### The start of an operation -/

/-- R155, R143, R141: an accepted FILL writes the latches, the window of its rectangle and N, enters PTIN, and changes
nothing else. In a legal configuration N is `ceil(W/8) * H` exactly (R143); that N is this length mod 2^16 in an illegal one
is the model's choice (DESIGN CHOICE, log entry 12). -/
def Obligations.FillStarts : Prop :=
  ∀ (s : State) (x y w h : Word) (v : Byte) (present color : Bool),
    s.ph = .idle → s.pins.pstate = .ready → geomOk s.cfg x y w h = true →
    exec (.fill x y w h v present color) s = .next
      { s with
        rspValid := false
        lat := { op := 2, color, present, arg := v, x, y, w, h }
        win := computeWindow x y w h
        n := BitVec.ofNat 16 ((w.toNat + 7) / 8 * h.toNat)
        ph := .ptin } ∧
    (s.cfg.legal = true → (BitVec.ofNat 16 ((w.toNat + 7) / 8 * h.toNat)).toNat = (w.toNat + 7) / 8 * h.toNat)

/-- R155, R143, R141: an accepted RAWBUF, likewise, the buffer present or absent. In a legal configuration N is
`floor(W/8) * H` exactly (R143); that N is this length mod 2^16 in an illegal one is the model's choice (DESIGN CHOICE, log
entry 12). -/
def Obligations.RawbufStarts : Prop :=
  ∀ (s : State) (x y w h : Word) (present : Bool) (arg : Byte) (color : Bool),
    s.ph = .idle → s.pins.pstate = .ready → geomOk s.cfg x y w h = true →
    exec (.rawbuf x y w h present arg color) s = .next
      { s with
        rspValid := false
        lat := { op := 3, color, present, arg, x, y, w, h }
        win := computeWindow x y w h
        n := BitVec.ofNat 16 (w.toNat / 8 * h.toNat)
        ph := .ptin } ∧
    (s.cfg.legal = true → (BitVec.ofNat 16 (w.toNat / 8 * h.toNat)).toNat = w.toNat / 8 * h.toNat)

/-- R155, R143, R141: an accepted GLYPH writes the window of 8 by 16 pixels and `N = 17`. -/
def Obligations.GlyphStarts : Prop :=
  ∀ (s : State) (x y : Word) (code : Byte) (color : Bool) (w h : Word) (present : Bool),
    s.ph = .idle → s.pins.pstate = .ready → glyphOk s.cfg code = true → geomOk s.cfg x y 8 16 = true →
    exec (.glyph x y code color w h present) s = .next
      { s with
        rspValid := false
        lat := { op := 4, color, present, arg := code, x, y, w, h }
        win := computeWindow x y 8 16
        n := 17
        ph := .ptin }

/-- R163: an accepted CLEAR enters C1CMD, offers no event in that tick, and writes nothing else but the latches and RSP_VALID. -/
def Obligations.ClearStarts : Prop :=
  ∀ (s : State) (x y w h : Word) (arg : Byte) (present color : Bool),
    s.ph = .idle → s.pins.pstate = .ready →
    exec (.clear x y w h arg present color) s = .next
      { s with rspValid := false, lat := { op := 5, color, present, arg, x, y, w, h }, ph := .c1cmd } ∧
    s.event = none

/-- R185, R22: an accepted WAITREADY, in any Power State, writes `ELAPSED <- 0`, enters POLL, and holds its timeout in
`{Y, X}`; no poll happens in that tick. -/
def Obligations.WaitreadyStarts : Prop :=
  ∀ (s : State) (timeout : Count) (w h : Word) (arg : Byte) (present color : Bool),
    s.ph = .idle →
    exec (.waitready timeout w h arg present color) s = .next
      { s with
        rspValid := false
        lat := { op := 6, color, present, arg, x := timeout.setWidth 16, y := (timeout >>> 16).setWidth 16, w, h }
        elapsed := 0
        ph := .poll } ∧
    (timeout >>> 16).setWidth 16 ++ timeout.setWidth 16 = timeout

/-! ### Rejection -/

/-- R208, with the order of R203: the first check that fails decides the code, whose number on `rsp_code` is R200's (1, 2, 3, 6),
and a rejection writes STATUS, RSP_VALID and the latches, stays in IDLE, offers no event, reads no memory space, and is ready for the next request in the next tick. -/
def Obligations.FirstFailingCheckRejects : Prop :=
  ∀ s : State, s.ph = .idle →
    let rejects (i : Instr) (c : Code) (number : BitVec 3) : Prop :=
      exec i s = .next { s with lat := i.operands, status := c, rspValid := true } ∧
      (State.endTick { s with lat := i.operands, status := c, rspValid := true }).reqReady = true ∧
      (State.endTick { s with lat := i.operands, status := c, rspValid := true }).rspCode = number ∧
      State.event { s with lat := i.operands, status := c, rspValid := true } = none ∧
      s.event = none ∧ s.bufReads = none ∧ s.glyphReads = none
    let fits (x y w h : Word) : Prop :=
      1 ≤ w.toNat ∧ 1 ≤ h.toNat ∧ x.toNat - x.toNat % 8 + w.toNat ≤ 8 * ((s.cfg.panelW + 7) / 8) ∧
      y.toNat + h.toNat ≤ s.cfg.panelH
    (∀ x y w h v p c,
      (s.pins.pstate ≠ .ready → rejects (.fill x y w h v p c) .invalidState 1) ∧
      (s.pins.pstate = .ready → ¬ fits x y w h → rejects (.fill x y w h v p c) .invalidGeometry 3)) ∧
    (∀ x y w h p a c,
      (s.pins.pstate ≠ .ready → rejects (.rawbuf x y w h p a c) .invalidState 1) ∧
      (s.pins.pstate = .ready → ¬ fits x y w h → rejects (.rawbuf x y w h p a c) .invalidGeometry 3)) ∧
    (∀ x y code c w h p,
      (s.pins.pstate ≠ .ready → rejects (.glyph x y code c w h p) .invalidState 1) ∧
      (s.pins.pstate = .ready → (code.toNat < 32 ∨ 32 + s.cfg.glyphN ≤ code.toNat) →
        rejects (.glyph x y code c w h p) .invalidGlyph 2) ∧
      (s.pins.pstate = .ready → 32 ≤ code.toNat → code.toNat < 32 + s.cfg.glyphN → ¬ fits x y 8 16 →
        rejects (.glyph x y code c w h p) .invalidGeometry 3)) ∧
    (∀ x y w h a p c, s.pins.pstate ≠ .ready → rejects (.clear x y w h a p c) .invalidState 1) ∧
    (∀ r, s.pins.reqValid = true → decode s.pins.reqDesc = .error r →
      s.blockTick = .next
        { s with lat := Descriptor.operands s.pins.reqDesc, status := .invalidOp, rspValid := true } ∧
      State.rspCode { s with lat := Descriptor.operands s.pins.reqDesc, status := .invalidOp, rspValid := true } = 6)

/-- R200, R37: the number of each response code on `rsp_code`, and no other code stands there. -/
def Obligations.ResponseCodeNumbers : Prop :=
  ∀ s : State,
    (s.status = .ok ↔ s.rspCode = 0) ∧ (s.status = .invalidState ↔ s.rspCode = 1) ∧
    (s.status = .invalidGlyph ↔ s.rspCode = 2) ∧ (s.status = .invalidGeometry ↔ s.rspCode = 3) ∧
    (s.status = .deviceTimeout ↔ s.rspCode = 4) ∧ (s.status = .deviceFault ↔ s.rspCode = 5) ∧
    (s.status = .invalidOp ↔ s.rspCode = 6) ∧ s.rspCode ≠ 7

/-- R204, R220: WINDOW and WAITREADY do the same in every Power State. -/
def Obligations.WindowAndWaitreadyIgnorePowerState : Prop :=
  ∀ (s : State) (i : Instr) (p : PowerState), s.ph = .idle → i.opNumber = 1 ∨ i.opNumber = 6 →
    exec i { s with pins := { s.pins with pstate := p } } =
      onNext (fun t => { t with pins := { t.pins with pstate := p } }) (exec i s)

/-- R220 to R224, N15, as the contract of the Controller State Machine puts them (DEDUCED, log entry 13): Ready is reached only
by `initialize()`, from any state; Sleeping only by `sleep()`, from Ready; `reset()` leaves what it found or Uninitialized;
`refresh()` changes nothing. -/
def Obligations.PowerStateIsReachedByItsCall : Prop :=
  (∀ (c : CsmCall) (p q : PowerState), c.mayLeave p q = true →
    (q = .ready → p = .ready ∨ c = .initCall) ∧ (q = .sleeping → p = .sleeping ∨ c = .sleepCall ∧ p = .ready) ∧
    (q = .reserved → p = .reserved)) ∧
  (∀ p q : PowerState,
    (CsmCall.initCall.mayLeave p q = true ↔ q = .ready) ∧
    (CsmCall.sleepCall.mayLeave p q = true ↔ p = .ready ∧ q = .sleeping) ∧
    (CsmCall.resetCall.mayLeave p q = true ↔ q = p ∨ q = .uninitialized) ∧
    (CsmCall.refreshCall.mayLeave p q = true ↔ q = p))

/-! ### The trace of each draw operation, run to its end -/

/-- R145, R140, R169, R37: an accepted FILL emits, in order, `Frame(P, N)` with `P(i) = ARG`, whatever the stalls, the request
port, `pstate` and the busy line do; at every moment what it has emitted is a beginning of that list; it ends with OK,
`I = N`, `IDX = 6` and the seven window bytes on `rsp_win`; and if every event is taken at once it ends after one tick for each of its `N + 12` events. -/
def Obligations.FillEmitsItsTrace : Prop :=
  ∀ (s : State) (x y w h : Word) (v : Byte) (present color : Bool),
    BlockInv s → s.ph = .idle → s.pins.pstate = .ready → geomOk s.cfg x y w h = true →
    ∃ s0, exec (.fill x y w h v present color) s = .next s0 ∧ s0.bus = s.bus ∧
      (∀ k t, Busy k s0.endTick t →
        (∃ m, t.bus = s.bus ++ (fillTrace s.cfg x y w h v).take m) ∧
        (t.ph = .idle →
          t.bus = s.bus ++ fillTrace s.cfg x y w h v ∧ t.status = .ok ∧ t.rspValid = true ∧
          t.lat = (Instr.fill x y w h v present color).operands ∧ t.win = computeWindow x y w h ∧
          t.n.toNat = fillLength w h ∧ t.i = t.n ∧ t.idx = 6 ∧ t.rspCode = 0 ∧
          t.rspWin = some (packWindowBytes s.cfg (computeWindow x y w h)))) ∧
      (s0.endTick.NoReset (fillLength w h + 12) → s0.endTick.Takes (fillLength w h + 12) →
        ∃ t, Busy (fillLength w h + 12) s0.endTick t ∧ t.ph = .idle)

/-- R147, R140, R169, R37: an accepted RAWBUF with a buffer emits `Frame(P, N)` with `P(i) = BufRead(i)`, on the premise the spec
lists (R256): the caller's buffer holds N bytes and stays the same while the operation runs. It ends as FILL does. -/
def Obligations.RawbufEmitsTheBuffer : Prop :=
  ∀ (s : State) (x y w h : Word) (arg : Byte) (color : Bool) (buf : Nat → Byte),
    BlockInv s → s.ph = .idle → s.pins.pstate = .ready → geomOk s.cfg x y w h = true →
    (∀ j < rawLength w h, Memory.read s.pixbuf j = some (buf j)) →
    ∃ s0, exec (.rawbuf x y w h true arg color) s = .next s0 ∧ s0.bus = s.bus ∧
      (∀ k t, s.KeepsBuffer (k + 1) → Busy k s0.endTick t →
        (∃ m, t.bus = s.bus ++ (rawTrace s.cfg x y w h buf).take m) ∧
        (t.ph = .idle →
          t.bus = s.bus ++ rawTrace s.cfg x y w h buf ∧ t.status = .ok ∧ t.rspValid = true ∧
          t.lat = (Instr.rawbuf x y w h true arg color).operands ∧ t.win = computeWindow x y w h ∧
          t.n.toNat = rawLength w h ∧ t.i = t.n ∧ t.idx = 6 ∧ t.rspCode = 0 ∧
          t.rspWin = some (packWindowBytes s.cfg (computeWindow x y w h)))) ∧
      (s0.endTick.NoReset (rawLength w h + 12) → s0.endTick.Takes (rawLength w h + 12) →
        ∃ t, Busy (rawLength w h + 12) s0.endTick t ∧ t.ph = .idle)

/-- R147, R140, R169, R37: an accepted RAWBUF without a buffer emits the same framing and the same count of 0x00, whatever PIXBUF
holds and however it changes. -/
def Obligations.RawbufAbsentEmitsZeros : Prop :=
  ∀ (s : State) (x y w h : Word) (arg : Byte) (color : Bool),
    BlockInv s → s.ph = .idle → s.pins.pstate = .ready → geomOk s.cfg x y w h = true →
    ∃ s0, exec (.rawbuf x y w h false arg color) s = .next s0 ∧ s0.bus = s.bus ∧
      (∀ k t, Busy k s0.endTick t →
        (∃ m, t.bus = s.bus ++ (blankTrace s.cfg x y w h).take m) ∧
        (t.ph = .idle →
          t.bus = s.bus ++ blankTrace s.cfg x y w h ∧ t.status = .ok ∧ t.rspValid = true ∧
          t.lat = (Instr.rawbuf x y w h false arg color).operands ∧ t.win = computeWindow x y w h ∧
          t.n.toNat = rawLength w h ∧ t.i = t.n ∧ t.idx = 6 ∧ t.rspCode = 0 ∧
          t.rspWin = some (packWindowBytes s.cfg (computeWindow x y w h)))) ∧
      (s0.endTick.NoReset (rawLength w h + 12) → s0.endTick.Takes (rawLength w h + 12) →
        ∃ t, Busy (rawLength w h + 12) s0.endTick t ∧ t.ph = .idle)

/-- R149, R150, R140, R169, R37: an accepted GLYPH emits `Frame(P, 17)` with the payload of R150 for the thirteen stored
rows of its code, and ends with OK and the seven window bytes on `rsp_win`. -/
def Obligations.GlyphEmitsItsTrace : Prop :=
  ∀ (s : State) (x y : Word) (code : Byte) (color : Bool) (w h : Word) (present : Bool),
    BlockInv s → s.ph = .idle → s.pins.pstate = .ready → glyphOk s.cfg code = true →
    geomOk s.cfg x y 8 16 = true →
    let trace := glyphTrace s.cfg x y (fun k => s.glyphByte (code.toNat - 32) k) color
    ∃ s0, exec (.glyph x y code color w h present) s = .next s0 ∧ s0.bus = s.bus ∧
      (∀ k t, Busy k s0.endTick t →
        (∃ m, t.bus = s.bus ++ trace.take m) ∧
        (t.ph = .idle →
          t.bus = s.bus ++ trace ∧ t.status = .ok ∧ t.rspValid = true ∧
          t.lat = (Instr.glyph x y code color w h present).operands ∧ t.win = computeWindow x y 8 16 ∧
          t.n = 17 ∧ t.i = 17 ∧ t.idx = 6 ∧ t.rspCode = 0 ∧
          t.rspWin = some (packWindowBytes s.cfg (computeWindow x y 8 16)))) ∧
      (s0.endTick.NoReset 29 → s0.endTick.Takes 29 → ∃ t, Busy 29 s0.endTick t ∧ t.ph = .idle)

/-- R152, R169: an accepted CLEAR emits the two full-frame transfers of R152, ends with OK and `N = I = PANEL_BYTES`, and leaves
the window registers and IDX as they were. -/
def Obligations.ClearEmitsItsTrace : Prop :=
  ∀ (s : State) (x y w h : Word) (arg : Byte) (present color : Bool),
    BlockInv s → s.ph = .idle → s.pins.pstate = .ready →
    ∃ s0, exec (.clear x y w h arg present color) s = .next s0 ∧ s0.bus = s.bus ∧
      (∀ k t, Busy k s0.endTick t →
        (∃ m, t.bus = s.bus ++ (clearTrace s.cfg).take m) ∧
        (t.ph = .idle →
          t.bus = s.bus ++ clearTrace s.cfg ∧ t.status = .ok ∧ t.rspValid = true ∧
          t.n.toNat = s.cfg.panelBytes ∧ t.i = t.n ∧ t.win = s.win ∧ t.idx = s.idx ∧
          t.rspCode = 0)) ∧
      (s0.endTick.NoReset (2 * s.cfg.panelBytes + 4) → s0.endTick.Takes (2 * s.cfg.panelBytes + 4) →
        ∃ t, Busy (2 * s.cfg.panelBytes + 4) s0.endTick t ∧ t.ph = .idle)

/-- R67, R162: on the premise that the collaborator is ready in as many ticks as the running draw has events left, with stalls
of any length between them, and with no reset, the draw ends. -/
def Obligations.DrawEndsUnderAFairCollaborator : Prop :=
  ∀ (s : State) (k : Nat), BlockInv s → s.ph ≠ .idle → s.ph ≠ .poll → s.NoReset k → s.eventsLeft ≤ s.readyTicks k →
    ∃ j t, j ≤ k ∧ Busy j s t ∧ t.ph = .idle ∧ t.status = .ok ∧ t.rspValid = true

/-! ### WAITREADY and the synchronizer -/

/-- R187, R186: WAITREADY ends after at most `TMO + 1` polls: OK at the least poll `j <= TMO` that reads ready, with
`ELAPSED = j`, and DeviceTimeout with `ELAPSED = TMO` if there is none. It emits nothing and writes no window register, N, I or
IDX (R188). -/
def Obligations.WaitreadyEndsWithinItsBound : Prop :=
  ∀ (s : State) (timeout : Count) (w h : Word) (arg : Byte) (present color : Bool), s.ph = .idle →
    ∃ s0, exec (.waitready timeout w h arg present color) s = .next s0 ∧
      (∀ j : Nat, j ≤ timeout.toNat → s0.endTick.NoReset (j + 1) →
        (∀ m < j, s0.endTick.syncAt m = false) → s0.endTick.syncAt j = true →
        ∃ t, Busy (j + 1) s0.endTick t ∧ t.ph = .idle ∧ t.status = .ok ∧ t.rspCode = 0 ∧ t.rspValid = true ∧ t.elapsed.toNat = j ∧
          t.bus = s.bus ∧ t.win = s.win ∧ t.n = s.n ∧ t.i = s.i ∧ t.idx = s.idx) ∧
      (s0.endTick.NoReset (timeout.toNat + 1) → (∀ m ≤ timeout.toNat, s0.endTick.syncAt m = false) →
        ∃ t, Busy (timeout.toNat + 1) s0.endTick t ∧ t.ph = .idle ∧ t.status = .deviceTimeout ∧ t.rspCode = 4 ∧
          t.rspValid = true ∧ t.elapsed = timeout ∧ t.bus = s.bus ∧ t.win = s.win ∧ t.n = s.n ∧ t.i = s.i ∧ t.idx = s.idx)

/-- R186: one poll in each tick of POLL, of the value of `SYNC[1]` before the shift; ready is looked at before expiry. -/
def Obligations.EachPollTickMakesOnePoll : Prop :=
  ∀ s : State, s.ph = .poll → s.pins.rst = false →
    (s.sync1 = true →
      step s = .next (State.endTick { s with status := .ok, rspValid := true, ph := .idle })) ∧
    (s.sync1 = false → s.elapsed = s.lat.y ++ s.lat.x →
      step s = .next (State.endTick { s with status := .deviceTimeout, rspValid := true, ph := .idle })) ∧
    (s.sync1 = false → s.elapsed ≠ s.lat.y ++ s.lat.x →
      step s = .next (State.endTick { s with elapsed := s.elapsed + 1 }))

/-- R181: in every tick without reset, whatever the block does, the synchronizer shifts once, from the values before the tick; and
what a poll reads is `SYNC[1]` before the shift. -/
def Obligations.SynchronizerShiftsEveryTick : Prop :=
  ∀ s t : State, s.pins.rst = false → step s = .next t →
    t.sync1 = s.sync0 ∧ t.sync0 = s.pins.rdyLine ∧
    (s.ph = .poll → (t.ph = .idle ∧ t.status = .ok ↔ s.sync1 = true))

/-- R182 (a): the synchronized value is the line two ticks ago; for the first two ticks after a reset it is busy. -/
def Obligations.SynchronizedValueIsTwoTicksOld : Prop :=
  (∀ s t : State, s.NoReset 2 → Ticks 2 s t → t.sync1 = s.pins.rdyLine) ∧
  (∀ s t u : State, s.pins.rst = true → step s = .next t → step t = .next u → t.sync1 = false ∧ u.sync1 = false)

/-! ### Events and the bus -/

/-- R38: an event offered and not taken is held: the same event is on offer in the next tick, even if the caller changes its
buffer, and nothing but the synchronizer changes (the byte on offer is remembered, log entry 7). -/
def Obligations.UntakenEventIsHeld : Prop :=
  ∀ (s t : State) (e : Event), s.pins.rst = false → s.pins.evReady = false → s.event = some e → step s = .next t →
    t.event = some e ∧ t.evValid = true ∧ ∃ b, t = State.endTick { s with held := b }

/-- R62, R71, R75 (a): BUS grows at its end, by the event on offer, exactly in a tick in which it is taken. (In a tick with
`rst = 1` too: the model's choice, log entry 8.) -/
def Obligations.BusGrowsByTheTakenEvent : Prop :=
  ∀ s t : State, step s = .next t →
    (∀ e, s.event = some e → s.pins.evReady = true → t.bus = s.bus ++ [e]) ∧
    (s.event = none ∨ s.pins.evReady = false → t.bus = s.bus)

/-- R38: an event is on offer exactly in the phases that offer one, in every state the block reaches. -/
def Obligations.EventIsOfferedExactlyWhenBusy : Prop :=
  ∀ s : State, BlockInv s → (s.evValid = true ↔ ∃ e, s.event = some e) ∧ (s.evValid = true ↔ s.ph ≠ .idle ∧ s.ph ≠ .poll)

/-- R74, R39, R72: GLYPHROM is read only inside its range and PIXBUF only below N, each only in PAY of its own operation. -/
def Obligations.ReadsStayInRange : Prop :=
  ∀ s : State, BlockInv s →
    (∀ i, s.bufIdx = some i →
      s.ph = .pay ∧ s.lat.op = 3 ∧ s.lat.present = true ∧ i < s.lat.w.toNat / 8 * s.lat.h.toNat) ∧
    (∀ g k, s.glyphIdx = some (g, k) →
      s.ph = .pay ∧ s.lat.op = 4 ∧ g < s.cfg.glyphN ∧ g + 32 = s.lat.arg.toNat ∧ k ≤ 12)

/-- R72, R159: while the bytes of one payload are sent, a byte that has been offered is not read again: after any tick of PAY the
next read, if there is one in the next tick, is of the next index. -/
def Obligations.EachByteIsReadOnce : Prop :=
  ∀ s t : State, BlockInv s → s.pins.rst = false → s.ph = .pay → step s = .next t →
    (∀ j, t.bufReads = some j → s.pins.evReady = true ∧ j = s.i.toNat + 1) ∧
    (∀ g k, t.glyphReads = some (g, k) → s.pins.evReady = true ∧ k + 1 = s.i.toNat)

/-- R150: the seventeen payload bytes of a checked GLYPH, and the reads of GLYPHROM that supply them. -/
def Obligations.GlyphPayloadBytes : Prop :=
  ∀ s : State, glyphOk s.cfg s.lat.arg = true →
    let m : Byte := if s.lat.color then 0x00 else 0xFF
    s.glyphPayload 0 = .ok m ∧ s.glyphPayload 1 = .ok m ∧ s.glyphPayload 15 = .ok m ∧ s.glyphPayload 16 = .ok m ∧
    (∀ k < 13, s.glyphPayload (2 + k) =
      .ok (if s.lat.color then s.glyphByte (s.lat.arg.toNat - 32) k else ~~~ s.glyphByte (s.lat.arg.toNat - 32) k)) ∧
    (s.ph = .pay → s.lat.op = 4 →
      (2 ≤ s.i.toNat → s.i.toNat ≤ 14 → s.glyphIdx = some (s.lat.arg.toNat - 32, s.i.toNat - 2)) ∧
      (s.i.toNat < 2 ∨ 14 < s.i.toNat → s.glyphIdx = none))

/-- R151: the payload in colour 1 is the complement of the payload in colour 0, at every one of its places. -/
def Obligations.GlyphColoursAreComplements : Prop :=
  ∀ (s : State) (j : Nat) (a b : Byte),
    State.glyphPayload { s with lat := { s.lat with color := false } } j = .ok a →
    State.glyphPayload { s with lat := { s.lat with color := true } } j = .ok b → b = ~~~ a

/-- R144: the length of a framed trace: `N + 12` events, of them 4 commands and 1 delay. -/
def Obligations.FrameLength : Prop :=
  ∀ (c : Config) (w : WindowRect) (p : Nat → Byte) (n : Nat),
    (frame c w p n).length = n + 12 ∧
    ((frame c w p n).filter fun e => e.kind == 0).length = 4 ∧
    ((frame c w p n).filter fun e => e.kind == 1).length = 7 + n ∧
    ((frame c w p n).filter fun e => e.kind == 2).length = 1

/-- R143 for FILL and RAWBUF, R12: a checked payload fits the panel, and every payload fits the 16-bit counters. -/
def Obligations.CheckedPayloadFits : Prop :=
  ∀ (c : Config) (x y w h : Word), c.legal = true → geomOk c x y w h = true →
    fillLength w h ≤ c.panelBytes ∧ rawLength w h ≤ fillLength w h ∧ c.panelBytes ≤ 16384 ∧ glyphLength = 17

/-! ### The response -/

/-- R30, R29: RSP_VALID is 1 from the tick a request completes or is rejected to the tick the next is accepted, and 0
otherwise; STATUS is written in that tick and by nothing else. -/
def Obligations.ResponseStaysUntilTheNextRequest : Prop :=
  ∀ s t : State, BlockInv s → s.pins.rst = false → step s = .next t →
    (s.ph = .idle → s.pins.reqValid = false → t.rspValid = s.rspValid ∧ t.status = s.status) ∧
    (t.ph ≠ .idle → t.rspValid = false ∧ t.status = s.status) ∧
    (t.ph = .idle → s.ph ≠ .idle ∨ s.pins.reqValid = true → t.rspValid = true)

/-- R28: within an operation the sequencer position never moves backwards, and a position that stays in its phase moves on by one
at most. -/
def Obligations.SequencerNeverMovesBack : Prop :=
  ∀ s t : State, BlockInv s → s.pins.rst = false → step s = .next t → s.ph ≠ .idle → t.ph ≠ .idle →
    s.ph.rank ≤ t.ph.rank ∧
    (t.ph = s.ph →
      (t.idx = s.idx ∨ t.idx.toNat = s.idx.toNat + 1) ∧ (t.i = s.i ∨ t.i.toNat = s.i.toNat + 1)) ∧
    (t.ph ≠ s.ph → s.ph.rank < t.ph.rank)

/-! ### Frames -/

/-- R21, R24, R32, R45: what a tick of a running operation leaves alone. -/
def Obligations.RunningTickFrame : Prop :=
  ∀ s t : State, s.ph ≠ .idle → s.pins.rst = false → step s = .next t →
    t.lat = s.lat ∧ t.win = s.win ∧
    (s.ph = .poll → t.n = s.n ∧ t.i = s.i ∧ t.idx = s.idx ∧ t.bus = s.bus) ∧
    (s.ph ≠ .poll → t.elapsed = s.elapsed) ∧
    (s.ph.framed = false → t.idx = s.idx) ∧
    (s.ph.framed = true → t.n = s.n)

/-- R33, R60, R61, R62: no step, a reset among them, changes a configuration parameter, the glyph table or a byte of PIXBUF (only
the caller does, by presenting a buffer), or takes an event back from BUS. The model's own choices here: the tick count and
the buffer presented through the script (DESIGN CHOICE, log entry 3), and that BUS is kept over a reset (DEDUCED, log entry
15). -/
def Obligations.ConfigurationAndSpacesAreOnlyRead : Prop :=
  ∀ s t : State, step s = .next t →
    t.cfg = s.cfg ∧ t.glyphRom = s.glyphRom ∧ s.bus <+: t.bus ∧ t.tick = s.tick + 1 ∧
    (s.bufferAt 0 = none → ∀ a, Memory.read t.pixbuf a = Memory.read s.pixbuf a) ∧
    (∀ bytes, s.bufferAt 0 = some bytes → ∀ a, Memory.read t.pixbuf a = bytes[a]?)

/-! ### Reset -/

/-- R240, R44: whatever the block was doing, after a tick with `rst = 1` it is in IDLE with no response, STATUS OK and SYNC
busy; no event is valid and a request can be accepted in the next tick; no request is accepted in that tick. (The other
registers are unspecified: nothing is said of them.) -/
def Obligations.ResetTick : Prop :=
  ∀ s : State, s.pins.rst = true →
    ∃ t, step s = .next t ∧ t.ph = .idle ∧ t.rspValid = false ∧ t.status = .ok ∧ t.sync0 = false ∧ t.sync1 = false ∧
      t.evValid = false ∧ t.reqReady = true

/-- R241: a reset while an operation runs ends it with no response; the events taken stay taken, an event offered and not
taken is withdrawn, and nothing more is offered. -/
def Obligations.ResetCutsTheOperation : Prop :=
  ∀ s t : State, s.pins.rst = true → s.ph ≠ .idle → step s = .next t →
    t.ph = .idle ∧ t.rspValid = false ∧ s.bus <+: t.bus ∧ t.event = none ∧ (s.pins.evReady = false → t.bus = s.bus)

/-- R44: the values the spec gives the state after reset, with the outputs. (The registers the spec leaves unspecified are 0
there, log entry 4, and are not spoken of.) -/
def Obligations.ResetValues : Prop :=
  State.reset.ph = .idle ∧ State.reset.rspValid = false ∧ State.reset.status = .ok ∧
  State.reset.sync0 = false ∧ State.reset.sync1 = false ∧ State.reset.pins.pstate = .uninitialized ∧
  State.reset.reqReady = true ∧ State.reset.rspValidPort = false ∧ State.reset.evValid = false

/-! ### The invariant -/

/-- The invariant holds after reset, for every value of the OPEN parameters that R8 allows. -/
def Obligations.InvariantHoldsAtReset : Prop := BlockInv State.reset

/-- Every step keeps the invariant, from every state that meets it and whatever the world does. -/
def Obligations.StepKeepsTheInvariant : Prop :=
  ∀ s t : State, BlockInv s → step s = .next t → BlockInv t

/-- From every state that meets the invariant the block has a next state: it never stops (R93, R209, R210). -/
def Obligations.BlockNeverStops : Prop :=
  ∀ s : State, BlockInv s → ∃ t, step s = .next t

/-! ### Independence of operations -/

/-- R43: the trace and the response code of an operation do not depend on STATUS, RSP_VALID, HS, HE, VS, VE, N, I, IDX,
ELAPSED or the operand latches as earlier operations left them; only WAITREADY depends on SYNC. -/
def Obligations.EarlierOperationsDoNotMatter : Prop :=
  ∀ (i : Instr) (s₁ s₂ a₁ a₂ : State),
    s₁.ph = .idle → s₂.ph = .idle → s₁.cfg = s₂.cfg → s₁.pixbuf = s₂.pixbuf → s₁.glyphRom = s₂.glyphRom →
    s₁.pins = s₂.pins → s₁.script = s₂.script → s₁.tick = s₂.tick →
    (i.opNumber = 6 → s₁.sync0 = s₂.sync0 ∧ s₁.sync1 = s₂.sync1) →
    exec i s₁ = .next a₁ → exec i s₂ = .next a₂ →
    ∀ k t₁, Busy k a₁.endTick t₁ →
      ∃ t₂, Busy k a₂.endTick t₂ ∧ t₂.ph = t₁.ph ∧ t₂.rspValid = t₁.rspValid ∧
        (t₁.ph = .idle → t₂.status = t₁.status) ∧
        ∃ events, t₁.bus = s₁.bus ++ events ∧ t₂.bus = s₂.bus ++ events
end

