-- ==== Sys2Proof/Laws/Checks.lean ====
section
/-! SUPPORT. When the checks of a request pass (R203), and what a passed geometry check says (R206). -/

namespace Sys2Proof.Machine

theorem firstFailure_none_iff (l : List (Bool × Code)) : firstFailure l = none ↔ ∀ p ∈ l, p.1 = true := by
  induction l with
  | nil => simp [firstFailure]
  | cons p l ih =>
    obtain ⟨b, c⟩ := p
    cases b <;> simp [firstFailure, ih]

@[simp] theorem PowerState.permitsDraw_iff (p : PowerState) : p.permitsDraw = true ↔ p = .ready := by
  cases p <;> simp [PowerState.permitsDraw]

theorem checkFill_none_iff (s : State) :
    checkFill s = none ↔ s.pins.pstate = .ready ∧ geomOk s.cfg s.lat.x s.lat.y s.lat.w s.lat.h = true := by
  simp [checkFill, firstFailure_none_iff]

theorem checkRawbuf_none_iff (s : State) :
    checkRawbuf s = none ↔ s.pins.pstate = .ready ∧ geomOk s.cfg s.lat.x s.lat.y s.lat.w s.lat.h = true := by
  simp [checkRawbuf, firstFailure_none_iff]

theorem checkGlyph_none_iff (s : State) :
    checkGlyph s = none ↔ s.pins.pstate = .ready ∧ glyphOk s.cfg s.lat.arg = true ∧
      geomOk s.cfg s.lat.x s.lat.y Config.glyphWinW Config.glyphWinH = true := by
  simp [checkGlyph, firstFailure_none_iff]

theorem checkClear_none_iff (s : State) : checkClear s = none ↔ s.pins.pstate = .ready := by
  simp [checkClear, firstFailure_none_iff]

theorem geomOk_iff (c : Config) (x y w h : Word) :
    geomOk c x y w h = true ↔
      1 ≤ w.toNat ∧ 1 ≤ h.toNat ∧ x.toNat - x.toNat % 8 + w.toNat ≤ 8 * c.byteW ∧ y.toNat + h.toNat ≤ c.panelH := by
  simp [geomOk, and_assoc]

theorem glyphOk_iff (c : Config) (code : Byte) :
    glyphOk c code = true ↔ 32 ≤ code.toNat ∧ code.toNat < 32 + c.glyphN := by
  simp only [glyphOk, Bool.and_eq_true, decide_eq_true_eq]
  exact Iff.rfl

theorem Config.legal_iff (c : Config) :
    c.legal = true ↔
      1 ≤ c.panelW ∧ c.panelW ≤ 256 ∧ 1 ≤ c.panelH ∧ c.panelH ≤ 512 ∧ 1 ≤ c.glyphN ∧ c.glyphN ≤ 224 := by
  simp [Config.legal, and_assoc]

/-- Bounds of the derived geometry of a legal configuration, R7, R12. -/
theorem Config.legal_bounds {c : Config} (h : c.legal = true) :
    1 ≤ c.byteW ∧ c.byteW ≤ 32 ∧ 1 ≤ c.panelBytes ∧ c.panelBytes ≤ 16384 := by
  rw [Config.legal_iff] at h
  have hb : 1 ≤ c.byteW ∧ c.byteW ≤ 32 := by unfold Config.byteW; omega
  refine ⟨hb.1, hb.2, ?_, ?_⟩
  · exact Nat.mul_pos hb.1 (by omega)
  · exact Nat.mul_le_mul hb.2 (show c.panelH ≤ 512 by omega)

end Sys2Proof.Machine
end

