-- ==== Sys2Proof/Laws/Decode.lean ====
section
/-! SUPPORT. Small laws of the descriptor's fields. -/

namespace Sys2Proof

/-- TMO as a number, R22, R96: the low half in X, the high half in Y. -/
theorem Operands.tmo_toNat (o : Operands) : o.tmo.toNat = o.y.toNat * 65536 + o.x.toNat := by
  unfold Operands.tmo
  rw [show (o.y ++ o.x : BitVec 32).toNat = _ from BitVec.toNat_append _ _]
  rw [Nat.shiftLeft_eq, Nat.mul_comm, ← Nat.two_pow_add_eq_or_of_lt o.x.isLt]

/-- An operation's latches hold its operation number. -/
@[simp] theorem Instr.operands_op (i : Instr) : i.operands.op = i.opNumber := by cases i <;> rfl

end Sys2Proof
end

