-- ==== Sys2Proof/Laws/Memory.lean ====
section
/-! SUPPORT. The laws of the read spaces: read after write, and that every operation keeps the canonical form. -/

namespace Sys2Proof.Machine

@[simp] theorem Memory.read_nil (a : Nat) : Memory.read [] a = none := rfl

theorem Memory.read_write_same (m : Memory) (a : Nat) (b : Byte) : (Memory.write m a b).read a = some b := by
  induction m with
  | nil => simp [Memory.write, Memory.read]
  | cons c m ih =>
    unfold Memory.write
    split
    · simp [Memory.read]
    · split
      · simp [Memory.read]
      · have : c.1 ≠ a := by omega
        simp [Memory.read, this, ih]

theorem Memory.read_write_other (m : Memory) {a a' : Nat} (b : Byte) (h : a' ≠ a) :
    (Memory.write m a b).read a' = m.read a' := by
  induction m with
  | nil => simp [Memory.write, Memory.read, h.symm]
  | cons c m ih =>
    unfold Memory.write
    split
    · simp [Memory.read, h.symm]
    · split
      · rename_i hc
        simp [Memory.read, h.symm, ← hc]
      · simp [Memory.read, ih]

theorem Memory.risingFrom_mono {m : Memory} {lo lo' : Nat} (h : lo' ≤ lo) (hm : Memory.risingFrom lo m = true) :
    Memory.risingFrom lo' m = true := by
  cases m with
  | nil => rfl
  | cons c m =>
    simp only [Memory.risingFrom, Bool.and_eq_true, decide_eq_true_eq] at hm ⊢
    exact ⟨by omega, hm.2⟩

theorem Memory.write_risingFrom {m : Memory} {lo a : Nat} (b : Byte) (ha : lo ≤ a)
    (hm : Memory.risingFrom lo m = true) : Memory.risingFrom lo (Memory.write m a b) = true := by
  induction m generalizing lo with
  | nil => simp [Memory.write, Memory.risingFrom, ha]
  | cons c m ih =>
    simp only [Memory.risingFrom, Bool.and_eq_true, decide_eq_true_eq] at hm
    unfold Memory.write
    split
    · simp only [Memory.risingFrom, Bool.and_eq_true, decide_eq_true_eq]
      exact ⟨ha, by omega, hm.2⟩
    · split
      · rename_i hc
        simp only [Memory.risingFrom, Bool.and_eq_true, decide_eq_true_eq]
        exact ⟨ha, hc ▸ hm.2⟩
      · simp only [Memory.risingFrom, Bool.and_eq_true, decide_eq_true_eq]
        exact ⟨hm.1, ih (by omega) hm.2⟩

theorem Memory.write_wf {m : Memory} (a : Nat) (b : Byte) (hm : m.wf = true) : (Memory.write m a b).wf = true :=
  Memory.write_risingFrom b (Nat.zero_le a) hm

theorem Memory.ofBytesFrom_risingFrom (k : Nat) (bs : List Byte) :
    Memory.risingFrom k (Memory.ofBytesFrom k bs) = true := by
  induction bs generalizing k with
  | nil => rfl
  | cons b bs ih => simp [Memory.ofBytesFrom, Memory.risingFrom, ih]

theorem Memory.ofBytes_wf (bs : List Byte) : (Memory.ofBytes bs).wf = true :=
  Memory.ofBytesFrom_risingFrom 0 bs

theorem Memory.ofBytesFrom_read (k i : Nat) (bs : List Byte) :
    (Memory.ofBytesFrom k bs).read (k + i) = bs[i]? := by
  induction bs generalizing k i with
  | nil => simp [Memory.ofBytesFrom]
  | cons b bs ih =>
    cases i with
    | zero => simp [Memory.ofBytesFrom, Memory.read]
    | succ i =>
      have h := ih (k + 1) i
      simp only [Nat.add_assoc, Nat.add_comm 1 i] at h
      simp [Memory.ofBytesFrom, Memory.read, h]

/-- The space of a sequence of bytes reads as the sequence. -/
theorem Memory.ofBytes_read (bs : List Byte) (i : Nat) : (Memory.ofBytes bs).read i = bs[i]? := by
  simpa [Memory.ofBytes] using Memory.ofBytesFrom_read 0 i bs

/-- The end of a tick keeps PIXBUF in canonical form, whatever buffer the caller presents. -/
theorem State.nextTick_pixbuf_wf {s : State} (h : Memory.wf s.pixbuf = true) :
    Memory.wf s.nextTick.pixbuf = true := by
  unfold State.nextTick
  cases s.nextEnv.buffer with
  | none => exact h
  | some bs => exact Memory.ofBytes_wf bs

end Sys2Proof.Machine
end

