-- ==== Sys2Proof/Laws/State.lean ====
section
/-! SUPPORT. One lemma for each field under each named update of the state, true by `rfl`: no later proof unfolds a record
update. -/

namespace Sys2Proof.Machine

variable (s : State)

/-! `State.latch`: R93 (1), (2). -/

@[simp] theorem State.latch_cfg (o : Operands) : (s.latch o).cfg = s.cfg := rfl
@[simp] theorem State.latch_lat (o : Operands) : (s.latch o).lat = o := rfl
@[simp] theorem State.latch_win (o : Operands) : (s.latch o).win = s.win := rfl
@[simp] theorem State.latch_ph (o : Operands) : (s.latch o).ph = s.ph := rfl
@[simp] theorem State.latch_idx (o : Operands) : (s.latch o).idx = s.idx := rfl
@[simp] theorem State.latch_n (o : Operands) : (s.latch o).n = s.n := rfl
@[simp] theorem State.latch_i (o : Operands) : (s.latch o).i = s.i := rfl
@[simp] theorem State.latch_status (o : Operands) : (s.latch o).status = s.status := rfl
@[simp] theorem State.latch_rspValid (o : Operands) : (s.latch o).rspValid = false := rfl
@[simp] theorem State.latch_sync0 (o : Operands) : (s.latch o).sync0 = s.sync0 := rfl
@[simp] theorem State.latch_sync1 (o : Operands) : (s.latch o).sync1 = s.sync1 := rfl
@[simp] theorem State.latch_elapsed (o : Operands) : (s.latch o).elapsed = s.elapsed := rfl
@[simp] theorem State.latch_held (o : Operands) : (s.latch o).held = s.held := rfl
@[simp] theorem State.latch_pixbuf (o : Operands) : (s.latch o).pixbuf = s.pixbuf := rfl
@[simp] theorem State.latch_glyphRom (o : Operands) : (s.latch o).glyphRom = s.glyphRom := rfl
@[simp] theorem State.latch_bus (o : Operands) : (s.latch o).bus = s.bus := rfl
@[simp] theorem State.latch_pins (o : Operands) : (s.latch o).pins = s.pins := rfl
@[simp] theorem State.latch_script (o : Operands) : (s.latch o).script = s.script := rfl
@[simp] theorem State.latch_tick (o : Operands) : (s.latch o).tick = s.tick := rfl

/-! `State.setWindow`: R24. -/

@[simp] theorem State.setWindow_cfg (w : WindowRect) : (s.setWindow w).cfg = s.cfg := rfl
@[simp] theorem State.setWindow_lat (w : WindowRect) : (s.setWindow w).lat = s.lat := rfl
@[simp] theorem State.setWindow_win (w : WindowRect) : (s.setWindow w).win = w := rfl
@[simp] theorem State.setWindow_ph (w : WindowRect) : (s.setWindow w).ph = s.ph := rfl
@[simp] theorem State.setWindow_idx (w : WindowRect) : (s.setWindow w).idx = s.idx := rfl
@[simp] theorem State.setWindow_n (w : WindowRect) : (s.setWindow w).n = s.n := rfl
@[simp] theorem State.setWindow_i (w : WindowRect) : (s.setWindow w).i = s.i := rfl
@[simp] theorem State.setWindow_status (w : WindowRect) : (s.setWindow w).status = s.status := rfl
@[simp] theorem State.setWindow_rspValid (w : WindowRect) : (s.setWindow w).rspValid = s.rspValid := rfl
@[simp] theorem State.setWindow_sync0 (w : WindowRect) : (s.setWindow w).sync0 = s.sync0 := rfl
@[simp] theorem State.setWindow_sync1 (w : WindowRect) : (s.setWindow w).sync1 = s.sync1 := rfl
@[simp] theorem State.setWindow_elapsed (w : WindowRect) : (s.setWindow w).elapsed = s.elapsed := rfl
@[simp] theorem State.setWindow_held (w : WindowRect) : (s.setWindow w).held = s.held := rfl
@[simp] theorem State.setWindow_pixbuf (w : WindowRect) : (s.setWindow w).pixbuf = s.pixbuf := rfl
@[simp] theorem State.setWindow_glyphRom (w : WindowRect) : (s.setWindow w).glyphRom = s.glyphRom := rfl
@[simp] theorem State.setWindow_bus (w : WindowRect) : (s.setWindow w).bus = s.bus := rfl
@[simp] theorem State.setWindow_pins (w : WindowRect) : (s.setWindow w).pins = s.pins := rfl
@[simp] theorem State.setWindow_script (w : WindowRect) : (s.setWindow w).script = s.script := rfl
@[simp] theorem State.setWindow_tick (w : WindowRect) : (s.setWindow w).tick = s.tick := rfl

/-! `State.respond`: R29, R30. -/

@[simp] theorem State.respond_cfg (c : Code) : (s.respond c).cfg = s.cfg := rfl
@[simp] theorem State.respond_lat (c : Code) : (s.respond c).lat = s.lat := rfl
@[simp] theorem State.respond_win (c : Code) : (s.respond c).win = s.win := rfl
@[simp] theorem State.respond_ph (c : Code) : (s.respond c).ph = .idle := rfl
@[simp] theorem State.respond_idx (c : Code) : (s.respond c).idx = s.idx := rfl
@[simp] theorem State.respond_n (c : Code) : (s.respond c).n = s.n := rfl
@[simp] theorem State.respond_i (c : Code) : (s.respond c).i = s.i := rfl
@[simp] theorem State.respond_status (c : Code) : (s.respond c).status = c := rfl
@[simp] theorem State.respond_rspValid (c : Code) : (s.respond c).rspValid = true := rfl
@[simp] theorem State.respond_sync0 (c : Code) : (s.respond c).sync0 = s.sync0 := rfl
@[simp] theorem State.respond_sync1 (c : Code) : (s.respond c).sync1 = s.sync1 := rfl
@[simp] theorem State.respond_elapsed (c : Code) : (s.respond c).elapsed = s.elapsed := rfl
@[simp] theorem State.respond_held (c : Code) : (s.respond c).held = s.held := rfl
@[simp] theorem State.respond_pixbuf (c : Code) : (s.respond c).pixbuf = s.pixbuf := rfl
@[simp] theorem State.respond_glyphRom (c : Code) : (s.respond c).glyphRom = s.glyphRom := rfl
@[simp] theorem State.respond_bus (c : Code) : (s.respond c).bus = s.bus := rfl
@[simp] theorem State.respond_pins (c : Code) : (s.respond c).pins = s.pins := rfl
@[simp] theorem State.respond_script (c : Code) : (s.respond c).script = s.script := rfl
@[simp] theorem State.respond_tick (c : Code) : (s.respond c).tick = s.tick := rfl

/-! `State.startFrame`: R155. -/

@[simp] theorem State.startFrame_cfg (m : Nat) : (s.startFrame m).cfg = s.cfg := rfl
@[simp] theorem State.startFrame_lat (m : Nat) : (s.startFrame m).lat = s.lat := rfl
@[simp] theorem State.startFrame_win (m : Nat) : (s.startFrame m).win = s.win := rfl
@[simp] theorem State.startFrame_ph (m : Nat) : (s.startFrame m).ph = .ptin := rfl
@[simp] theorem State.startFrame_idx (m : Nat) : (s.startFrame m).idx = s.idx := rfl
@[simp] theorem State.startFrame_n (m : Nat) : (s.startFrame m).n = BitVec.ofNat 16 m := rfl
@[simp] theorem State.startFrame_i (m : Nat) : (s.startFrame m).i = s.i := rfl
@[simp] theorem State.startFrame_status (m : Nat) : (s.startFrame m).status = s.status := rfl
@[simp] theorem State.startFrame_rspValid (m : Nat) : (s.startFrame m).rspValid = s.rspValid := rfl
@[simp] theorem State.startFrame_sync0 (m : Nat) : (s.startFrame m).sync0 = s.sync0 := rfl
@[simp] theorem State.startFrame_sync1 (m : Nat) : (s.startFrame m).sync1 = s.sync1 := rfl
@[simp] theorem State.startFrame_elapsed (m : Nat) : (s.startFrame m).elapsed = s.elapsed := rfl
@[simp] theorem State.startFrame_held (m : Nat) : (s.startFrame m).held = s.held := rfl
@[simp] theorem State.startFrame_pixbuf (m : Nat) : (s.startFrame m).pixbuf = s.pixbuf := rfl
@[simp] theorem State.startFrame_glyphRom (m : Nat) : (s.startFrame m).glyphRom = s.glyphRom := rfl
@[simp] theorem State.startFrame_bus (m : Nat) : (s.startFrame m).bus = s.bus := rfl
@[simp] theorem State.startFrame_pins (m : Nat) : (s.startFrame m).pins = s.pins := rfl
@[simp] theorem State.startFrame_script (m : Nat) : (s.startFrame m).script = s.script := rfl
@[simp] theorem State.startFrame_tick (m : Nat) : (s.startFrame m).tick = s.tick := rfl

/-! `State.startClear`: R163. -/

@[simp] theorem State.startClear_cfg : (s.startClear).cfg = s.cfg := rfl
@[simp] theorem State.startClear_lat : (s.startClear).lat = s.lat := rfl
@[simp] theorem State.startClear_win : (s.startClear).win = s.win := rfl
@[simp] theorem State.startClear_ph : (s.startClear).ph = .c1cmd := rfl
@[simp] theorem State.startClear_idx : (s.startClear).idx = s.idx := rfl
@[simp] theorem State.startClear_n : (s.startClear).n = s.n := rfl
@[simp] theorem State.startClear_i : (s.startClear).i = s.i := rfl
@[simp] theorem State.startClear_status : (s.startClear).status = s.status := rfl
@[simp] theorem State.startClear_rspValid : (s.startClear).rspValid = s.rspValid := rfl
@[simp] theorem State.startClear_sync0 : (s.startClear).sync0 = s.sync0 := rfl
@[simp] theorem State.startClear_sync1 : (s.startClear).sync1 = s.sync1 := rfl
@[simp] theorem State.startClear_elapsed : (s.startClear).elapsed = s.elapsed := rfl
@[simp] theorem State.startClear_held : (s.startClear).held = s.held := rfl
@[simp] theorem State.startClear_pixbuf : (s.startClear).pixbuf = s.pixbuf := rfl
@[simp] theorem State.startClear_glyphRom : (s.startClear).glyphRom = s.glyphRom := rfl
@[simp] theorem State.startClear_bus : (s.startClear).bus = s.bus := rfl
@[simp] theorem State.startClear_pins : (s.startClear).pins = s.pins := rfl
@[simp] theorem State.startClear_script : (s.startClear).script = s.script := rfl
@[simp] theorem State.startClear_tick : (s.startClear).tick = s.tick := rfl

/-! `State.startPoll`: R185. -/

@[simp] theorem State.startPoll_cfg : (s.startPoll).cfg = s.cfg := rfl
@[simp] theorem State.startPoll_lat : (s.startPoll).lat = s.lat := rfl
@[simp] theorem State.startPoll_win : (s.startPoll).win = s.win := rfl
@[simp] theorem State.startPoll_ph : (s.startPoll).ph = .poll := rfl
@[simp] theorem State.startPoll_idx : (s.startPoll).idx = s.idx := rfl
@[simp] theorem State.startPoll_n : (s.startPoll).n = s.n := rfl
@[simp] theorem State.startPoll_i : (s.startPoll).i = s.i := rfl
@[simp] theorem State.startPoll_status : (s.startPoll).status = s.status := rfl
@[simp] theorem State.startPoll_rspValid : (s.startPoll).rspValid = s.rspValid := rfl
@[simp] theorem State.startPoll_sync0 : (s.startPoll).sync0 = s.sync0 := rfl
@[simp] theorem State.startPoll_sync1 : (s.startPoll).sync1 = s.sync1 := rfl
@[simp] theorem State.startPoll_elapsed : (s.startPoll).elapsed = 0 := rfl
@[simp] theorem State.startPoll_held : (s.startPoll).held = s.held := rfl
@[simp] theorem State.startPoll_pixbuf : (s.startPoll).pixbuf = s.pixbuf := rfl
@[simp] theorem State.startPoll_glyphRom : (s.startPoll).glyphRom = s.glyphRom := rfl
@[simp] theorem State.startPoll_bus : (s.startPoll).bus = s.bus := rfl
@[simp] theorem State.startPoll_pins : (s.startPoll).pins = s.pins := rfl
@[simp] theorem State.startPoll_script : (s.startPoll).script = s.script := rfl
@[simp] theorem State.startPoll_tick : (s.startPoll).tick = s.tick := rfl

/-! `State.startClearData`: R165. -/

@[simp] theorem State.startClearData_cfg (p : Phase) : (s.startClearData p).cfg = s.cfg := rfl
@[simp] theorem State.startClearData_lat (p : Phase) : (s.startClearData p).lat = s.lat := rfl
@[simp] theorem State.startClearData_win (p : Phase) : (s.startClearData p).win = s.win := rfl
@[simp] theorem State.startClearData_ph (p : Phase) : (s.startClearData p).ph = p := rfl
@[simp] theorem State.startClearData_idx (p : Phase) : (s.startClearData p).idx = s.idx := rfl
@[simp] theorem State.startClearData_n (p : Phase) : (s.startClearData p).n = BitVec.ofNat 16 s.cfg.panelBytes := rfl
@[simp] theorem State.startClearData_i (p : Phase) : (s.startClearData p).i = 0 := rfl
@[simp] theorem State.startClearData_status (p : Phase) : (s.startClearData p).status = s.status := rfl
@[simp] theorem State.startClearData_rspValid (p : Phase) : (s.startClearData p).rspValid = s.rspValid := rfl
@[simp] theorem State.startClearData_sync0 (p : Phase) : (s.startClearData p).sync0 = s.sync0 := rfl
@[simp] theorem State.startClearData_sync1 (p : Phase) : (s.startClearData p).sync1 = s.sync1 := rfl
@[simp] theorem State.startClearData_elapsed (p : Phase) : (s.startClearData p).elapsed = s.elapsed := rfl
@[simp] theorem State.startClearData_held (p : Phase) : (s.startClearData p).held = s.held := rfl
@[simp] theorem State.startClearData_pixbuf (p : Phase) : (s.startClearData p).pixbuf = s.pixbuf := rfl
@[simp] theorem State.startClearData_glyphRom (p : Phase) : (s.startClearData p).glyphRom = s.glyphRom := rfl
@[simp] theorem State.startClearData_bus (p : Phase) : (s.startClearData p).bus = s.bus := rfl
@[simp] theorem State.startClearData_pins (p : Phase) : (s.startClearData p).pins = s.pins := rfl
@[simp] theorem State.startClearData_script (p : Phase) : (s.startClearData p).script = s.script := rfl
@[simp] theorem State.startClearData_tick (p : Phase) : (s.startClearData p).tick = s.tick := rfl

/-! `State.goto`: R14. -/

@[simp] theorem State.goto_cfg (p : Phase) : (s.goto p).cfg = s.cfg := rfl
@[simp] theorem State.goto_lat (p : Phase) : (s.goto p).lat = s.lat := rfl
@[simp] theorem State.goto_win (p : Phase) : (s.goto p).win = s.win := rfl
@[simp] theorem State.goto_ph (p : Phase) : (s.goto p).ph = p := rfl
@[simp] theorem State.goto_idx (p : Phase) : (s.goto p).idx = s.idx := rfl
@[simp] theorem State.goto_n (p : Phase) : (s.goto p).n = s.n := rfl
@[simp] theorem State.goto_i (p : Phase) : (s.goto p).i = s.i := rfl
@[simp] theorem State.goto_status (p : Phase) : (s.goto p).status = s.status := rfl
@[simp] theorem State.goto_rspValid (p : Phase) : (s.goto p).rspValid = s.rspValid := rfl
@[simp] theorem State.goto_sync0 (p : Phase) : (s.goto p).sync0 = s.sync0 := rfl
@[simp] theorem State.goto_sync1 (p : Phase) : (s.goto p).sync1 = s.sync1 := rfl
@[simp] theorem State.goto_elapsed (p : Phase) : (s.goto p).elapsed = s.elapsed := rfl
@[simp] theorem State.goto_held (p : Phase) : (s.goto p).held = s.held := rfl
@[simp] theorem State.goto_pixbuf (p : Phase) : (s.goto p).pixbuf = s.pixbuf := rfl
@[simp] theorem State.goto_glyphRom (p : Phase) : (s.goto p).glyphRom = s.glyphRom := rfl
@[simp] theorem State.goto_bus (p : Phase) : (s.goto p).bus = s.bus := rfl
@[simp] theorem State.goto_pins (p : Phase) : (s.goto p).pins = s.pins := rfl
@[simp] theorem State.goto_script (p : Phase) : (s.goto p).script = s.script := rfl
@[simp] theorem State.goto_tick (p : Phase) : (s.goto p).tick = s.tick := rfl

/-! `State.taken`: R38, R62. -/

@[simp] theorem State.taken_cfg (e : Event) : (s.taken e).cfg = s.cfg := rfl
@[simp] theorem State.taken_lat (e : Event) : (s.taken e).lat = s.lat := rfl
@[simp] theorem State.taken_win (e : Event) : (s.taken e).win = s.win := rfl
@[simp] theorem State.taken_ph (e : Event) : (s.taken e).ph = s.ph := rfl
@[simp] theorem State.taken_idx (e : Event) : (s.taken e).idx = s.idx := rfl
@[simp] theorem State.taken_n (e : Event) : (s.taken e).n = s.n := rfl
@[simp] theorem State.taken_i (e : Event) : (s.taken e).i = s.i := rfl
@[simp] theorem State.taken_status (e : Event) : (s.taken e).status = s.status := rfl
@[simp] theorem State.taken_rspValid (e : Event) : (s.taken e).rspValid = s.rspValid := rfl
@[simp] theorem State.taken_sync0 (e : Event) : (s.taken e).sync0 = s.sync0 := rfl
@[simp] theorem State.taken_sync1 (e : Event) : (s.taken e).sync1 = s.sync1 := rfl
@[simp] theorem State.taken_elapsed (e : Event) : (s.taken e).elapsed = s.elapsed := rfl
@[simp] theorem State.taken_held (e : Event) : (s.taken e).held = none := rfl
@[simp] theorem State.taken_pixbuf (e : Event) : (s.taken e).pixbuf = s.pixbuf := rfl
@[simp] theorem State.taken_glyphRom (e : Event) : (s.taken e).glyphRom = s.glyphRom := rfl
@[simp] theorem State.taken_bus (e : Event) : (s.taken e).bus = s.bus ++ [e] := rfl
@[simp] theorem State.taken_pins (e : Event) : (s.taken e).pins = s.pins := rfl
@[simp] theorem State.taken_script (e : Event) : (s.taken e).script = s.script := rfl
@[simp] theorem State.taken_tick (e : Event) : (s.taken e).tick = s.tick := rfl

/-! `State.hold`: R159. -/

@[simp] theorem State.hold_cfg (b : Byte) : (s.hold b).cfg = s.cfg := rfl
@[simp] theorem State.hold_lat (b : Byte) : (s.hold b).lat = s.lat := rfl
@[simp] theorem State.hold_win (b : Byte) : (s.hold b).win = s.win := rfl
@[simp] theorem State.hold_ph (b : Byte) : (s.hold b).ph = s.ph := rfl
@[simp] theorem State.hold_idx (b : Byte) : (s.hold b).idx = s.idx := rfl
@[simp] theorem State.hold_n (b : Byte) : (s.hold b).n = s.n := rfl
@[simp] theorem State.hold_i (b : Byte) : (s.hold b).i = s.i := rfl
@[simp] theorem State.hold_status (b : Byte) : (s.hold b).status = s.status := rfl
@[simp] theorem State.hold_rspValid (b : Byte) : (s.hold b).rspValid = s.rspValid := rfl
@[simp] theorem State.hold_sync0 (b : Byte) : (s.hold b).sync0 = s.sync0 := rfl
@[simp] theorem State.hold_sync1 (b : Byte) : (s.hold b).sync1 = s.sync1 := rfl
@[simp] theorem State.hold_elapsed (b : Byte) : (s.hold b).elapsed = s.elapsed := rfl
@[simp] theorem State.hold_held (b : Byte) : (s.hold b).held = some b := rfl
@[simp] theorem State.hold_pixbuf (b : Byte) : (s.hold b).pixbuf = s.pixbuf := rfl
@[simp] theorem State.hold_glyphRom (b : Byte) : (s.hold b).glyphRom = s.glyphRom := rfl
@[simp] theorem State.hold_bus (b : Byte) : (s.hold b).bus = s.bus := rfl
@[simp] theorem State.hold_pins (b : Byte) : (s.hold b).pins = s.pins := rfl
@[simp] theorem State.hold_script (b : Byte) : (s.hold b).script = s.script := rfl
@[simp] theorem State.hold_tick (b : Byte) : (s.hold b).tick = s.tick := rfl

/-! `State.shiftSync`: R181. -/

@[simp] theorem State.shiftSync_cfg : (s.shiftSync).cfg = s.cfg := rfl
@[simp] theorem State.shiftSync_lat : (s.shiftSync).lat = s.lat := rfl
@[simp] theorem State.shiftSync_win : (s.shiftSync).win = s.win := rfl
@[simp] theorem State.shiftSync_ph : (s.shiftSync).ph = s.ph := rfl
@[simp] theorem State.shiftSync_idx : (s.shiftSync).idx = s.idx := rfl
@[simp] theorem State.shiftSync_n : (s.shiftSync).n = s.n := rfl
@[simp] theorem State.shiftSync_i : (s.shiftSync).i = s.i := rfl
@[simp] theorem State.shiftSync_status : (s.shiftSync).status = s.status := rfl
@[simp] theorem State.shiftSync_rspValid : (s.shiftSync).rspValid = s.rspValid := rfl
@[simp] theorem State.shiftSync_sync0 : (s.shiftSync).sync0 = s.pins.rdyLine := rfl
@[simp] theorem State.shiftSync_sync1 : (s.shiftSync).sync1 = s.sync0 := rfl
@[simp] theorem State.shiftSync_elapsed : (s.shiftSync).elapsed = s.elapsed := rfl
@[simp] theorem State.shiftSync_held : (s.shiftSync).held = s.held := rfl
@[simp] theorem State.shiftSync_pixbuf : (s.shiftSync).pixbuf = s.pixbuf := rfl
@[simp] theorem State.shiftSync_glyphRom : (s.shiftSync).glyphRom = s.glyphRom := rfl
@[simp] theorem State.shiftSync_bus : (s.shiftSync).bus = s.bus := rfl
@[simp] theorem State.shiftSync_pins : (s.shiftSync).pins = s.pins := rfl
@[simp] theorem State.shiftSync_script : (s.shiftSync).script = s.script := rfl
@[simp] theorem State.shiftSync_tick : (s.shiftSync).tick = s.tick := rfl

/-! `State.nextTick`: the tick's end. -/

@[simp] theorem State.nextTick_cfg : (s.nextTick).cfg = s.cfg := rfl
@[simp] theorem State.nextTick_lat : (s.nextTick).lat = s.lat := rfl
@[simp] theorem State.nextTick_win : (s.nextTick).win = s.win := rfl
@[simp] theorem State.nextTick_ph : (s.nextTick).ph = s.ph := rfl
@[simp] theorem State.nextTick_idx : (s.nextTick).idx = s.idx := rfl
@[simp] theorem State.nextTick_n : (s.nextTick).n = s.n := rfl
@[simp] theorem State.nextTick_i : (s.nextTick).i = s.i := rfl
@[simp] theorem State.nextTick_status : (s.nextTick).status = s.status := rfl
@[simp] theorem State.nextTick_rspValid : (s.nextTick).rspValid = s.rspValid := rfl
@[simp] theorem State.nextTick_sync0 : (s.nextTick).sync0 = s.sync0 := rfl
@[simp] theorem State.nextTick_sync1 : (s.nextTick).sync1 = s.sync1 := rfl
@[simp] theorem State.nextTick_elapsed : (s.nextTick).elapsed = s.elapsed := rfl
@[simp] theorem State.nextTick_held : (s.nextTick).held = s.held := rfl
@[simp] theorem State.nextTick_glyphRom : (s.nextTick).glyphRom = s.glyphRom := rfl
@[simp] theorem State.nextTick_bus : (s.nextTick).bus = s.bus := rfl
@[simp] theorem State.nextTick_pins : (s.nextTick).pins = s.nextEnv.pins := rfl
@[simp] theorem State.nextTick_script : (s.nextTick).script = s.script.tail := rfl
@[simp] theorem State.nextTick_tick : (s.nextTick).tick = s.tick + 1 := rfl

/-! `State.endTick`: the tick's end with `rst = 0`. -/

@[simp] theorem State.endTick_cfg : (s.endTick).cfg = s.cfg := rfl
@[simp] theorem State.endTick_lat : (s.endTick).lat = s.lat := rfl
@[simp] theorem State.endTick_win : (s.endTick).win = s.win := rfl
@[simp] theorem State.endTick_ph : (s.endTick).ph = s.ph := rfl
@[simp] theorem State.endTick_idx : (s.endTick).idx = s.idx := rfl
@[simp] theorem State.endTick_n : (s.endTick).n = s.n := rfl
@[simp] theorem State.endTick_i : (s.endTick).i = s.i := rfl
@[simp] theorem State.endTick_status : (s.endTick).status = s.status := rfl
@[simp] theorem State.endTick_rspValid : (s.endTick).rspValid = s.rspValid := rfl
@[simp] theorem State.endTick_sync0 : (s.endTick).sync0 = s.pins.rdyLine := rfl
@[simp] theorem State.endTick_sync1 : (s.endTick).sync1 = s.sync0 := rfl
@[simp] theorem State.endTick_elapsed : (s.endTick).elapsed = s.elapsed := rfl
@[simp] theorem State.endTick_held : (s.endTick).held = s.held := rfl
@[simp] theorem State.endTick_glyphRom : (s.endTick).glyphRom = s.glyphRom := rfl
@[simp] theorem State.endTick_bus : (s.endTick).bus = s.bus := rfl
@[simp] theorem State.endTick_pins : (s.endTick).pins = s.nextEnv.pins := rfl
@[simp] theorem State.endTick_script : (s.endTick).script = s.script.tail := rfl
@[simp] theorem State.endTick_tick : (s.endTick).tick = s.tick + 1 := rfl

/-! `State.resetRegs`: R44, R240. -/

@[simp] theorem State.resetRegs_cfg : (s.resetRegs).cfg = s.cfg := rfl
@[simp] theorem State.resetRegs_ph : (s.resetRegs).ph = .idle := rfl
@[simp] theorem State.resetRegs_idx : (s.resetRegs).idx = Config.unspecIdx s.tick := rfl
@[simp] theorem State.resetRegs_n : (s.resetRegs).n = Config.unspecN s.tick := rfl
@[simp] theorem State.resetRegs_i : (s.resetRegs).i = Config.unspecI s.tick := rfl
@[simp] theorem State.resetRegs_status : (s.resetRegs).status = .ok := rfl
@[simp] theorem State.resetRegs_rspValid : (s.resetRegs).rspValid = false := rfl
@[simp] theorem State.resetRegs_sync0 : (s.resetRegs).sync0 = false := rfl
@[simp] theorem State.resetRegs_sync1 : (s.resetRegs).sync1 = false := rfl
@[simp] theorem State.resetRegs_elapsed : (s.resetRegs).elapsed = Config.unspecElapsed s.tick := rfl
@[simp] theorem State.resetRegs_held : (s.resetRegs).held = none := rfl
@[simp] theorem State.resetRegs_pixbuf : (s.resetRegs).pixbuf = s.pixbuf := rfl
@[simp] theorem State.resetRegs_glyphRom : (s.resetRegs).glyphRom = s.glyphRom := rfl
@[simp] theorem State.resetRegs_bus : (s.resetRegs).bus = s.bus := rfl
@[simp] theorem State.resetRegs_pins : (s.resetRegs).pins = s.pins := rfl
@[simp] theorem State.resetRegs_script : (s.resetRegs).script = s.script := rfl
@[simp] theorem State.resetRegs_tick : (s.resetRegs).tick = s.tick := rfl

/-! The named forms over `State.respond`. -/

@[simp] theorem State.raise_eq (c : Code) : s.raise c = s.respond c := rfl
@[simp] theorem State.complete_eq : s.complete = s.respond .ok := rfl

end Sys2Proof.Machine
end

