-- ==== Sys2Proof/Laws/Ops.lean ====
section
/-! SUPPORT. What each shared operation can do, said once: later proofs cite these and do not unfold the operation. -/

namespace Sys2Proof.Machine

variable {s t : State}

/-! ### Acceptance -/

theorem State.offerRequest_idle (h : s.ph = .idle) (o : Operands) (check : State → Option Code)
    (start : State → State) : s.offerRequest o check start = .next (s.accept o check start) := by
  simp [State.offerRequest, h]

theorem State.offerRequest_busy (h : s.ph ≠ .idle) (o : Operands) (check : State → Option Code)
    (start : State → State) : s.offerRequest o check start = s.runTick := by
  unfold State.offerRequest
  split
  · rename_i h'; exact absurd h' h
  · rfl

/-- Acceptance rejects with the first failing check's code, or starts. -/
theorem State.accept_cases (o : Operands) (check : State → Option Code) (start : State → State) :
    (∃ c, check (s.latch o) = some c ∧ s.accept o check start = (s.latch o).respond c) ∨
    (check (s.latch o) = none ∧ s.accept o check start = start (s.latch o)) := by
  unfold State.accept
  cases h : check (s.latch o) with
  | none => exact .inr ⟨rfl, by simp [h]⟩
  | some c => exact .inl ⟨c, rfl, by simp [h]⟩

/-- A busy block does with a request what it does without one, whichever request it is. -/
theorem exec_busy (h : s.ph ≠ .idle) (i : Instr) : exec i s = s.runTick := by
  cases i <;>
    simp [exec, execWindow, execFill, execRawbuf, execGlyph, execClear, execWaitready, State.offerRequest_busy h]

/-! ### The sequencer -/

/-- What a tick without acceptance can do. -/
theorem State.runTick_cases (h : s.runTick = .next t) :
    (s.ph = .idle ∧ t = s) ∨ (s.ph = .poll ∧ t = s.poll) ∨
    (∃ e, s.ph ≠ .idle ∧ s.ph ≠ .poll ∧ s.offered = .ok (some e) ∧ t = s.handshake e) := by
  unfold State.runTick at h
  split at h
  · exact .inl ⟨‹_›, by cases h; rfl⟩
  · exact .inr (.inl ⟨‹_›, by cases h; rfl⟩)
  · rename_i h1 h2
    cases ho : s.offered with
    | error f => rw [ho] at h; cases h
    | ok o =>
      cases o with
      | none =>
        exfalso
        unfold State.offered at ho
        cases hp : s.ph <;> simp [hp] at ho h1 h2
        · split at ho <;> simp at ho
        · split at ho
          · simp at ho
          · cases hb : s.payloadByte <;> simp [hb, Except.map] at ho
      | some e =>
        rw [ho] at h
        exact .inr (.inr ⟨e, h1, h2, rfl, by cases h; rfl⟩)

/-- A payload byte that is counted leaves everything but I and PH. -/
theorem State.countByte_cases (p : Phase) :
    (s.i + 1 = s.n ∧ s.countByte p = { s with i := s.i + 1, ph := p }) ∨
    (s.i + 1 ≠ s.n ∧ s.countByte p = { s with i := s.i + 1 }) := by
  by_cases h : s.i + 1 = s.n
  · exact .inl ⟨h, if_pos h⟩
  · exact .inr ⟨h, if_neg h⟩

/-- A transition of the sequencer writes PH, IDX, N, I, STATUS and RSP_VALID and nothing else. -/
theorem State.advance_frame (s : State) :
    s.advance = { s with
      ph := s.advance.ph, idx := s.advance.idx, n := s.advance.n, i := s.advance.i
      status := s.advance.status, rspValid := s.advance.rspValid } := by
  have count (p : Phase) : s.countByte p = { s with
      ph := (s.countByte p).ph, idx := (s.countByte p).idx, n := (s.countByte p).n, i := (s.countByte p).i
      status := (s.countByte p).status, rspValid := (s.countByte p).rspValid } := by
    rcases State.countByte_cases (s := s) p with ⟨-, e⟩ | ⟨-, e⟩ <;> rw [e]
  unfold State.advance
  cases s.ph <;> simp only []
  case win =>
    by_cases h : s.idx = 6
    · simp only [h, if_true, State.goto]
    · simp only [h, if_false]
  case pay => exact count _
  case c1data => exact count _
  case c2data => exact count _
  all_goals rfl

@[simp] theorem State.advance_cfg (s : State) : s.advance.cfg = s.cfg := by rw [s.advance_frame]
@[simp] theorem State.advance_lat (s : State) : s.advance.lat = s.lat := by rw [s.advance_frame]
@[simp] theorem State.advance_win (s : State) : s.advance.win = s.win := by rw [s.advance_frame]
@[simp] theorem State.advance_sync0 (s : State) : s.advance.sync0 = s.sync0 := by rw [s.advance_frame]
@[simp] theorem State.advance_sync1 (s : State) : s.advance.sync1 = s.sync1 := by rw [s.advance_frame]
@[simp] theorem State.advance_elapsed (s : State) : s.advance.elapsed = s.elapsed := by rw [s.advance_frame]
@[simp] theorem State.advance_held (s : State) : s.advance.held = s.held := by rw [s.advance_frame]
@[simp] theorem State.advance_pixbuf (s : State) : s.advance.pixbuf = s.pixbuf := by rw [s.advance_frame]
@[simp] theorem State.advance_glyphRom (s : State) : s.advance.glyphRom = s.glyphRom := by rw [s.advance_frame]
@[simp] theorem State.advance_bus (s : State) : s.advance.bus = s.bus := by rw [s.advance_frame]
@[simp] theorem State.advance_pins (s : State) : s.advance.pins = s.pins := by rw [s.advance_frame]
@[simp] theorem State.advance_script (s : State) : s.advance.script = s.script := by rw [s.advance_frame]
@[simp] theorem State.advance_tick (s : State) : s.advance.tick = s.tick := by rw [s.advance_frame]

/-- The handshake appends the event exactly when it is taken. -/
theorem State.handshake_cases (e : Event) :
    (s.pins.evReady = true ∧ s.handshake e = (s.taken e).advance) ∨
    (s.pins.evReady = false ∧ s.handshake e = s.stall e) := by
  unfold State.handshake
  cases s.pins.evReady
  · exact .inr ⟨rfl, rfl⟩
  · exact .inl ⟨rfl, rfl⟩

/-- A stall changes at most the held payload byte. -/
theorem State.stall_eq (e : Event) : s.stall e = { s with held := (s.stall e).held } := by
  unfold State.stall
  split <;> rfl

/-- A poll answers OK, answers DeviceTimeout, or counts. -/
theorem State.poll_cases :
    (s.sync1 = true ∧ s.poll = s.respond .ok) ∨
    (s.sync1 = false ∧ s.elapsed = s.lat.tmo ∧ s.poll = s.respond .deviceTimeout) ∨
    (s.sync1 = false ∧ s.elapsed ≠ s.lat.tmo ∧ s.poll = { s with elapsed := s.elapsed + 1 }) := by
  unfold State.poll
  cases hs : s.sync1
  · by_cases he : s.elapsed = s.lat.tmo
    · exact .inr (.inl ⟨rfl, he, by simp [he]⟩)
    · exact .inr (.inr ⟨rfl, he, by simp [he]⟩)
  · exact .inl ⟨rfl, by simp⟩

/-! ### The step -/

theorem onNext_next {f : State → State} {o : Host.Outcome State Fault Refusal} (h : onNext f o = .next t) :
    ∃ u, o = .next u ∧ t = f u := by
  cases o with
  | next u => exact ⟨u, rfl, by cases h; rfl⟩
  | fault r => cases h
  | refused r => cases h

/-- A block that runs an operation does the operation's tick, whatever stands at the request port. -/
theorem State.blockTick_busy (h : s.ph ≠ .idle) : s.blockTick = s.runTick := by
  unfold State.blockTick
  split
  · split
    · exact exec_busy h _
    · exact State.offerRequest_busy h _ _ _
  · rfl

/-- Everything one step can do. -/
theorem step_cases (h : step s = .next t) :
    (s.pins.rst = true ∧ t = s.resetTick) ∨
    (s.pins.rst = false ∧ s.ph ≠ .idle ∧ ∃ u, s.runTick = .next u ∧ t = u.endTick) ∨
    (s.pins.rst = false ∧ s.ph = .idle ∧ s.pins.reqValid = false ∧ t = s.endTick) ∨
    (s.pins.rst = false ∧ s.ph = .idle ∧ s.pins.reqValid = true ∧
      ((∃ i u, decode s.pins.reqDesc = .ok i ∧ exec i s = .next u ∧ t = u.endTick) ∨
       (∃ r, decode s.pins.reqDesc = .error r ∧
        t = ((s.latch (Descriptor.operands s.pins.reqDesc)).respond .invalidOp).endTick))) := by
  unfold step at h
  split at h
  · rename_i hr
    exact .inl ⟨hr, by cases h; rfl⟩
  · rename_i hr
    have hr : s.pins.rst = false := by simpa using hr
    obtain ⟨u, hu, rfl⟩ := onNext_next h
    by_cases hp : s.ph = .idle
    · refine .inr (.inr ?_)
      unfold State.blockTick at hu
      split at hu
      · rename_i hv
        refine .inr ⟨hr, hp, hv, ?_⟩
        split at hu
        · rename_i i hi
          exact .inl ⟨i, u, hi, hu, rfl⟩
        · rename_i r hd
          refine .inr ⟨r, hd, ?_⟩
          rw [State.offerRequest_idle hp] at hu
          cases hu
          rfl
      · rename_i hv
        refine .inl ⟨hr, hp, by simpa using hv, ?_⟩
        simp only [State.runTick, hp] at hu
        cases hu
        rfl
    · rw [State.blockTick_busy hp] at hu
      exact .inr (.inl ⟨hr, hp, u, hu, rfl⟩)

end Sys2Proof.Machine
end

