-- ==== Sys2Proof/Laws/PerInstr.lean ====
section
/-! SUPPORT. One law for each instruction: the low byte of its word, under the mask of R91, is its operation number.
The statement is about the word alone. -/

namespace Sys2Proof.Laws.Selects

/-- `encode i & 0xCF` is the operation number of `i`, R91. -/
def Statement (i : Instr) : Prop := encode i &&& 0xCF = i.opNumber.setWidth 80

/-- The mask of R91 keeps the operation number of packed fields and nothing else. -/
theorem mask_pack (o : Operands) : o.pack &&& 0xCF = o.op.setWidth 80 := by
  unfold Operands.pack
  ext i hi
  interval_cases i <;> simp

theorem window (x y w h : Word) (arg : Byte) (present color : Bool) :
    Statement (.window x y w h arg present color) := mask_pack _

theorem fill (x y w h : Word) (v : Byte) (present color : Bool) :
    Statement (.fill x y w h v present color) := mask_pack _

theorem rawbuf (x y w h : Word) (present : Bool) (arg : Byte) (color : Bool) :
    Statement (.rawbuf x y w h present arg color) := mask_pack _

theorem glyph (x y : Word) (code : Byte) (color : Bool) (w h : Word) (present : Bool) :
    Statement (.glyph x y code color w h present) := mask_pack _

theorem clear (x y w h : Word) (arg : Byte) (present color : Bool) :
    Statement (.clear x y w h arg present color) := mask_pack _

theorem waitready (timeout : Count) (w h : Word) (arg : Byte) (present color : Bool) :
    Statement (.waitready timeout w h arg present color) := mask_pack _

end Sys2Proof.Laws.Selects
end

