-- ==== Sys2Proof/Tests/Slice0.lean ====
section
/-! SUPPORT. The model's own tests, few and small. Expected results are the spec's: the vectors V1 to V79 and the runs T1
and T2 of `spec/95_test_vectors.md`, each named where it is used, or a sum done by hand from the rule named.

Three parts: the checks of `WellFormed.lean`, each with a term it refuses; decoding and single ticks; and for every
statement with hypotheses a witness that meets them. -/

namespace Sys2Proof.Tests.Slice0

open Sys2Proof Sys2Proof.Machine

/-! ### The instance of the vectors -/

/-- The instance of `95_test_vectors.md` section 0, with a settle time of 7. -/
def vcfg : Config := ⟨152, 152, 95, 0x91, 0x90, 0x92, 0x10, 0x13, 0x01, 7⟩

/-- A panel of one byte column and one row. -/
def tiny : Config := { vcfg with panelW := 8, panelH := 1 }

/-- A tick's levels: no reset, no request. -/
def levels (p : PowerState) (rdy ev : Bool) : Pins := ⟨false, false, 0, p, rdy, ev⟩

/-- The state after reset in the instance of the vectors, Ready, the line ready, every event taken. -/
def idle : State := { State.reset with cfg := vcfg, pins := levels .ready true true }

/-- `s` with a request at its port. -/
def asking (s : State) (d : Descriptor) : State := { s with pins := { s.pins with reqValid := true, reqDesc := d } }

/-- `s` with `k` more ticks in which the collaborator takes everything. -/
def taking (s : State) (k : Nat) : State := { s with script := List.replicate k ⟨levels .ready true true, none⟩ }

/-- A test of the state one step leads to. -/
def after (s : State) (p : State → Bool) : Bool :=
  match step s with
  | .next t => p t
  | .fault _ => false
  | .refused _ => false

/-- `k` busy ticks, run. -/
def busyRun : Nat → State → Option State
  | 0, s => some s
  | k + 1, s =>
    if s.ph ≠ .idle ∧ s.pins.rst = false then
      match step s with
      | .next u => busyRun k u
      | .fault _ => none
      | .refused _ => none
    else none

theorem busyRun_sound {k : Nat} {s t : State} (h : busyRun k s = some t) : Busy k s t := by
  induction k generalizing s with
  | zero => simp only [busyRun, Option.some.injEq] at h; exact h ▸ .zero s
  | succ k ih =>
    simp only [busyRun] at h
    split at h
    · rename_i hb
      split at h
      · exact .tick hb.1 hb.2 ‹_› (ih h)
      all_goals exact absurd h (by simp)
    · exact absurd h (by simp)

/-! ### WellFormed: what each check refuses -/

theorem test_wf_accepts_largest : Request.wellFormed (.fill 65535 65535 65535 65535 255) = true := by decide
theorem test_wf_x : Request.wellFormed (.window 65536 0 8 1) = false := by decide
theorem test_wf_y : Request.wellFormed (.fill 0 65536 8 1 0) = false := by decide
theorem test_wf_w : Request.wellFormed (.rawbuf 0 0 65536 1 true) = false := by decide
theorem test_wf_h : Request.wellFormed (.window 0 0 8 65536) = false := by decide
theorem test_wf_value : Request.wellFormed (.fill 0 0 8 1 256) = false := by decide
theorem test_wf_code : Request.wellFormed (.glyph 0 0 256 false) = false := by decide
theorem test_wf_glyph_x : Request.wellFormed (.glyph 65536 0 65 false) = false := by decide
theorem test_wf_timeout : Request.wellFormed (.waitready 4294967296) = false := by decide
theorem test_legal_vectors : vcfg.legal = true ∧ Config.legal { vcfg with panelW := 256, panelH := 512, glyphN := 224 } = true := by
  decide
theorem test_legal_panel_w : Config.legal { vcfg with panelW := 0 } = false ∧ Config.legal { vcfg with panelW := 257 } = false := by
  decide
theorem test_legal_panel_h : Config.legal { vcfg with panelH := 0 } = false ∧ Config.legal { vcfg with panelH := 513 } = false := by
  decide
theorem test_legal_glyphs : Config.legal { vcfg with glyphN := 0 } = false ∧ Config.legal { vcfg with glyphN := 225 } = false := by
  decide

/-! ### Decoding: words of the vectors, and a line of R103 beside the word the spec gives it -/

/-- V1. -/
theorem test_decode_window : decode 0x000100140000000A0001 = .ok (Request.toInstr (.window 10 0 20 1)) := by rfl
/-- V17. -/
theorem test_decode_fill : decode 0x000300140005000AAA02 = .ok (Request.toInstr (.fill 10 5 20 3 0xAA)) := by rfl
/-- V25. -/
theorem test_decode_rawbuf : decode 0x00020010000000080023 = .ok (Request.toInstr (.rawbuf 8 0 16 2 true)) := by rfl
/-- V32. -/
theorem test_decode_glyph : decode 0x00000000002000104114 = .ok (Request.toInstr (.glyph 16 32 65 true)) := by rfl
/-- V45. -/
theorem test_decode_clear : decode 0x00000000000000000005 = .ok (Request.toInstr .clear) := by rfl
/-- V54. -/
theorem test_decode_waitready : decode 0x00000000000123450006 = .ok (Request.toInstr (.waitready 0x12345)) := by rfl
/-- V36: ignored fields are kept. -/
theorem test_decode_glyph_ignored : decode 0x0000FFFF000000004134 = .ok (.glyph 0 0 0x41 true 0xFFFF 0 true) := by rfl
/-- V17, the other way. -/
theorem test_encode_fill : encode (Request.toInstr (.fill 10 5 20 3 0xAA)) = 0x000300140005000AAA02 := by rfl
/-- V54b, the other way. -/
theorem test_encode_waitready : encode (Request.toInstr (.waitready 0xFFFFFFFF)) = 0x00000000FFFFFFFF0006 := by rfl
/-- V58, V59, V60: reserved operation numbers. -/
theorem test_decode_reserved_op :
    decode 0 = .error (.opNumber 0) ∧ decode 7 = .error (.opNumber 7) ∧ decode 15 = .error (.opNumber 15) := ⟨rfl, rfl, rfl⟩
/-- V61, V62: reserved bits. -/
theorem test_decode_reserved_rsv :
    decode 0x00010008000000000042 = .error (.rsvBits 1) ∧ decode 0x00010008000000000081 = .error (.rsvBits 2) := ⟨rfl, rfl⟩
/-- S5: the text `AB`. -/
theorem test_draw_text : drawText 0 0 [0x41, 0x42] true = [.glyph 0 0 0x41 true, .glyph 8 0 0x42 true] := by rfl

/-! ### Windows: V3, V5, V6, V8 -/

theorem test_window_vectors :
    windowBytes vcfg (computeWindow 0 250 8 10) = [0x00, 0x07, 0x00, 0xFA, 0x01, 0x03, 0x01] ∧
    windowBytes vcfg (computeWindow 0 0 0 0) = [0x00, 0xFF, 0x00, 0x00, 0x01, 0xFF, 0x01] ∧
    windowBytes vcfg (computeWindow 250 0 16 1) = [0xF8, 0x07, 0x00, 0x00, 0x00, 0x00, 0x01] ∧
    windowBytes vcfg (computeWindow 65535 65535 65535 65535) = [0xF8, 0xF7, 0x01, 0xFF, 0x01, 0xFD, 0x01] := by decide

/-! ### One tick of each operation -/

/-- V13, V14: WINDOW answers in its tick, Sleeping or not. -/
theorem test_window_answers :
    after (asking { idle with pins := levels .sleeping true true } 0x000A000800FA00000001)
      (fun t => t.rspWin == some 0x010301FA000700 && t.rspCode == 0 && t.bus == []) = true := by decide
/-- V24g: the check does not wrap. -/
theorem test_fill_geometry :
    after (asking idle 0xFFFF0008000100000102) (fun t => t.status == .invalidGeometry && t.ph == .idle && t.win == idle.win) =
      true := by decide
/-- V17: N and the window. -/
theorem test_fill_starts :
    after (asking idle 0x000300140005000AAA02)
      (fun t => t.ph == .ptin && t.n == 9 && t.win == ⟨8, 0x1F, 5, 7⟩ && !t.rspValid && t.bus == []) = true := by decide
/-- V27: RAWBUF counts whole bytes of the width. -/
theorem test_rawbuf_starts :
    after (asking idle 0x000300140005000A0023) (fun t => t.ph == .ptin && t.n == 6 && t.win == ⟨8, 0x1F, 5, 7⟩) = true := by
  decide
/-- V29. -/
theorem test_rawbuf_sleeping :
    after (asking { idle with pins := levels .sleeping true true } 0x00020010000000080003) (fun t => t.status == .invalidState) =
      true := by decide
/-- V44b: the glyph before the geometry. -/
theorem test_glyph_order : after (asking idle 0x0000000000C800C80504) (fun t => t.status == .invalidGlyph) = true := by decide
/-- V42c. -/
theorem test_glyph_starts :
    after (asking idle 0x00000000008800004104) (fun t => t.ph == .ptin && t.n == 17 && t.win == ⟨0, 7, 0x88, 0x97⟩) = true := by
  decide
/-- V47. -/
theorem test_clear_sleeping :
    after (asking { idle with pins := levels .sleeping true true } 5) (fun t => t.status == .invalidState && t.ph == .idle) =
      true := by decide
/-- R165, V45: the data of channel 1 begins with N = 2888. -/
theorem test_clear_data :
    after { idle with ph := .c1cmd, lat := { idle.lat with op := 5 } }
      (fun t => t.ph == .c1data && t.n == 2888 && t.i == 0 && t.bus == [.cmd 0x10]) = true := by decide
/-- V54: the timeout lies in X and Y. -/
theorem test_waitready_starts :
    after (asking idle 0x00000000000123450006)
      (fun t => t.ph == .poll && t.elapsed == 0 && t.lat.x == 0x2345 && t.lat.y == 1 && t.lat.tmo == 0x12345) = true := by decide
/-- V52: ready wins over expiry in the same poll. -/
theorem test_waitready_ready_wins :
    after { idle with ph := .poll, sync1 := true, elapsed := 2, lat := { idle.lat with op := 6, x := 2 } }
      (fun t => t.status == .ok && t.elapsed == 2 && t.rspValid) = true := by decide
/-- V63: InvalidOp before InvalidState. -/
theorem test_reserved_sleeping :
    after (asking { idle with pins := levels .sleeping true true } 0x00010008000000000042)
      (fun t => t.status == .invalidOp && t.ph == .idle && t.rspValid && t.lat.w == 8) = true := by decide

/-- The block in PAY of T1 (tick 12), with a buffer of two bytes and N = 2. -/
def paying : State :=
  { idle with
    ph := .pay
    lat := ⟨3, false, true, 0, 0, 0, 16, 1⟩
    win := computeWindow 0 0 16 1
    n := 2
    idx := 6
    pixbuf := Memory.ofBytes [0x5A, 0xA5] }

/-- The block in PAY of V31, at payload byte `i`, with the row `00 00 C3 ..` of `A` listed from `k = 0` to 2. -/
def paintingGlyph (i : Word) : State :=
  { idle with
    ph := .pay
    lat := ⟨4, false, false, 0x41, 16, 32, 0, 0⟩
    win := computeWindow 16 32 8 16
    n := 17
    i := i
    idx := 6
    glyphRom := [(16 * 33, 0x00), (16 * 33 + 1, 0x00), (16 * 33 + 2, 0xC3)] }

/-- T1, ticks 12 and 13: a byte offered and not taken is held, and the held byte is the one sent. -/
theorem test_byte_is_held :
    after { paying with pins := levels .ready true false } (fun t => t.held == some 0x5A && t.i == 0 && t.bus == []) = true ∧
    after { paying with held := some 0x77 } (fun t => t.bus == [.data 0x77] && t.i == 1 && t.held == none) = true := by decide
/-- V31: the third content byte of `A` in colour 0 is `3C`; the second byte sent is a margin `FF`. -/
theorem test_glyph_bytes :
    after (paintingGlyph 4) (fun t => t.bus == [.data 0x3C]) = true ∧
    after (paintingGlyph 1) (fun t => t.bus == [.data 0xFF]) = true := by decide
/-- T1, tick 10: after the seventh window byte IDX stays 6. -/
theorem test_last_window_byte :
    after { paying with ph := .win } (fun t => t.ph == .dtm && t.idx == 6 && t.bus == [.data 0x01]) = true := by decide
/-- V28: an empty payload goes from DTM to SETTLE. -/
theorem test_empty_payload :
    after { paying with ph := .dtm, n := 0 } (fun t => t.ph == .settle && t.i == 0 && t.bus == [.cmd 0x13]) = true := by decide
/-- T2, tick 2: SYNC takes the line, and S the first flop. -/
theorem test_synchronizer :
    after { idle with pins := levels .ready false true, sync0 := true } (fun t => t.sync1 && !t.sync0) = true := by decide
/-- R241: a reset in mid-operation ends it; the event not yet taken is withdrawn. -/
theorem test_reset_cuts :
    after { paying with pins := { levels .ready true false with rst := true }, held := some 0x5A }
      (fun t => t.ph == .idle && !t.rspValid && t.bus == [] && t.held == none) = true := by decide
/-- The host's two readings of a row agree with the table: FILL, and a reserved word. -/
theorem test_table_words :
    decodeTableWord 80 0x000300140005000AAA02 = some (.fill 10 5 20 3 0xAA false false) ∧ decodeTableWord 8 0x47 = none := by
  decide
theorem test_fetch_word :
    after (State.withFetchWord State.reset 80 0x000100140000000A0001) (fun t => t.win == ⟨8, 31, 0, 0⟩ && t.rspValid) = true := by
  decide

/-! ### Witnesses: states and operands that meet the premises of each statement

`witness_<Name>` is for `Obligations.<Name>`; a statement with several clauses has one part for each, at the ends of its
ranges. -/

/-- In an idle state the invariant is about the parameters and the two spaces. -/
theorem inv_of_idle {s : State} (h : s.ph = .idle) (hc : s.cfg.legal = true) (hp : Memory.wf s.pixbuf = true)
    (hg : Memory.wf s.glyphRom = true) (hh : s.held = none) : BlockInv s := by
  constructor <;> simp_all [Phase.framed, Phase.clearing]

theorem inv_idle : BlockInv idle := inv_of_idle rfl (by decide) (by decide) (by decide) rfl

theorem inv_paying : BlockInv paying := by constructor <;> (try unfold framedInv) <;> decide
theorem inv_painting : BlockInv (paintingGlyph 4) := by constructor <;> (try unfold framedInv) <;> decide

/-- The block in the last phase of the transfer of `paying`. -/
def leaving : State := { paying with ph := .ptout, i := 2 }
theorem inv_leaving : BlockInv leaving := by constructor <;> (try unfold framedInv) <;> decide

/-- The block polling, at poll 2 of a WAITREADY 2. -/
def polling : State := { idle with ph := .poll, elapsed := 2, lat := ⟨6, false, false, 0, 2, 0, 0, 0⟩ }
theorem inv_polling : BlockInv polling := by constructor <;> (try unfold framedInv) <;> decide

/-- A panel of one byte, so that CLEAR is six events. -/
def idleTiny : State := { idle with cfg := tiny }
theorem inv_idleTiny : BlockInv idleTiny := inv_of_idle rfl (by decide) (by decide) (by decide) rfl

theorem witness_EncodeInvertsDecode : ∃ i, decode 0xFFFFFFFFFFFFFFFFFF32 = .ok i := ⟨_, rfl⟩
theorem witness_MaskSelectsTheOperation :
    ((0x0000FFFFFFFFFFFFFF31 : Descriptor) &&& 0xCF).toNat = 1 ∧ ((0x000300140005000AAA02 : Descriptor) &&& 0xCF).toNat = 2 ∧
    ((0x00020010000000080023 : Descriptor) &&& 0xCF).toNat = 3 ∧ ((0x0000FFFF000000004134 : Descriptor) &&& 0xCF).toNat = 4 ∧
    ((0x00040003000200010935 : Descriptor) &&& 0xCF).toNat = 5 ∧ ((0x00090007000000035536 : Descriptor) &&& 0xCF).toNat = 6 ∧
    ¬ (1 ≤ ((7 : Descriptor) &&& 0xCF).toNat ∧ ((7 : Descriptor) &&& 0xCF).toNat ≤ 6) ∧
    ¬ (1 ≤ ((0x41 : Descriptor) &&& 0xCF).toNat ∧ ((0x41 : Descriptor) &&& 0xCF).toNat ≤ 6) := by decide
theorem witness_ReservedDescriptorIsRejected :
    ((0 : Descriptor).extractLsb' 0 4).toNat = 0 ∧ 7 ≤ ((7 : Descriptor).extractLsb' 0 4).toNat ∧
    7 ≤ ((15 : Descriptor).extractLsb' 0 4).toNat ∧ (0x42 : Descriptor).extractLsb' 6 2 ≠ 0 ∧
    (0xC1 : Descriptor).extractLsb' 6 2 ≠ 0 ∧
    (∃ r, decode 0x42 = .error r) ∧ (asking idle 0x42).ph = .idle ∧ (asking idle 0x42).pins.rst = false ∧
    (asking idle 0x42).pins.reqValid = true ∧ (asking idle 0x42).pins.reqDesc = 0x42 :=
  ⟨by decide, by decide, by decide, by decide, by decide, ⟨_, rfl⟩, rfl, rfl, rfl, rfl⟩
theorem witness_TextIsOneGlyphPerCharacter :
    ([0x41, 0x42] : List Byte)[0]? = some 0x41 ∧ ([0x41, 0x42] : List Byte)[1]? = some 0x42 := by decide
theorem witness_StepRunsTheRequest :
    ((asking idle 0x42).pins.rst = false ∧ (asking idle 2).pins.reqValid = true ∧ ∃ i, decode (asking idle 2).pins.reqDesc = .ok i) ∧
    (idle.pins.rst = false ∧ idle.ph = .idle ∧ idle.pins.reqValid = false) ∧
    (paying.pins.rst = false ∧ paying.ph ≠ .idle) :=
  ⟨⟨rfl, rfl, _, rfl⟩, ⟨rfl, rfl, rfl⟩, rfl, by decide⟩
theorem witness_AcceptanceLatchesEveryField : idle.ph = .idle := rfl
theorem witness_BusyBlockIgnoresOtherInputs : (paying.ph ≠ .idle ∧ paying.pins.rst = false) ∧ polling.ph ≠ .idle := by decide
theorem witness_WindowReturnsTheWindow : idle.ph = .idle := rfl
theorem witness_WindowIsCeilOfWidthBytes :
    (1 ≤ (1 : Word).toNat ∧ ((7 : Word) &&& 0xFFF8).toNat + (2 : Word).toNat - 1 < 65536) ∧
    ((0xFFFF : Word) &&& 0xFFF8).toNat + (8 : Word).toNat - 1 < 65536 ∧
    ((0 : Word) &&& 0xFFF8).toNat + (0xFFFF : Word).toNat - 1 < 65536 := by decide
theorem witness_TheTwoReadingsOfStart :
    (1 ≤ (2 : Word).toNat ∧ (7 : Word).toNat + (2 : Word).toNat - 1 < 65536) ∧
    (1 ≤ (1 : Word).toNat ∧ (0xFFFF : Word).toNat + (1 : Word).toNat - 1 < 65536) := by decide
/-- The largest panel, and its last byte column and row. -/
theorem witness_CheckedWindowLosesNothing :
    Config.legal { vcfg with panelW := 256, panelH := 512 } = true ∧
    geomOk { vcfg with panelW := 256, panelH := 512 } 248 511 8 1 = true ∧
    geomOk { vcfg with panelW := 256, panelH := 512 } 0 0 256 512 = true := by decide
theorem witness_EmptyRectangleWindow : 8 ≤ (8 : Word).toNat ∧ (7 : Word).toNat < 8 := by decide
/-- V23d and the largest fill, V18. -/
theorem witness_FillStarts :
    idle.ph = .idle ∧ idle.pins.pstate = .ready ∧ geomOk idle.cfg 151 151 1 1 = true ∧ geomOk idle.cfg 0 0 152 152 = true ∧
    idle.cfg.legal = true := by decide
theorem witness_RawbufStarts :
    idle.ph = .idle ∧ idle.pins.pstate = .ready ∧ geomOk idle.cfg 0 0 7 4 = true ∧ geomOk idle.cfg 144 136 8 16 = true ∧
    idle.cfg.legal = true := by decide
/-- V39, V40 and V42. -/
theorem witness_GlyphStarts :
    idle.ph = .idle ∧ idle.pins.pstate = .ready ∧ glyphOk idle.cfg 32 = true ∧ glyphOk idle.cfg 126 = true ∧
    geomOk idle.cfg 151 136 8 16 = true := by decide
theorem witness_ClearStarts : idle.ph = .idle ∧ idle.pins.pstate = .ready := by decide
theorem witness_WaitreadyStarts : idle.ph = .idle := rfl
/-- Every clause: V22, V23b, V24d, V24b, V38, V41, V42d, and a reserved word. -/
theorem witness_FirstFailingCheckRejects :
    let fits (x y w h : Word) : Prop :=
      1 ≤ w.toNat ∧ 1 ≤ h.toNat ∧ x.toNat - x.toNat % 8 + w.toNat ≤ 8 * ((idle.cfg.panelW + 7) / 8) ∧
      y.toNat + h.toNat ≤ idle.cfg.panelH
    idle.ph = .idle ∧ { idle with pins := levels .uninitialized true true }.pins.pstate ≠ .ready ∧
    idle.pins.pstate = .ready ∧ ¬ fits 144 0 9 1 ∧ ¬ fits 0 0 0 5 ∧ ¬ fits 0 151 8 2 ∧ ¬ fits 0 137 8 16 ∧
    ((31 : Byte).toNat < 32 ∨ 32 + idle.cfg.glyphN ≤ (31 : Byte).toNat) ∧
    ((127 : Byte).toNat < 32 ∨ 32 + idle.cfg.glyphN ≤ (127 : Byte).toNat) ∧
    (32 ≤ (126 : Byte).toNat ∧ (126 : Byte).toNat < 32 + idle.cfg.glyphN) ∧
    (asking idle 7).pins.reqValid = true ∧ decode (asking idle 7).pins.reqDesc = .error (.opNumber 7) := by
  refine ⟨rfl, by decide, rfl, by decide, by decide, by decide, by decide, by decide, by decide, by decide, rfl, rfl⟩
theorem witness_ResponseCodeNumbers :
    { idle with status := .deviceTimeout }.status = .deviceTimeout ∧ State.rspCode { idle with status := .invalidOp } = 6 := by
  decide
theorem witness_WindowAndWaitreadyIgnorePowerState :
    idle.ph = .idle ∧ (Request.toInstr (.window 0 0 8 1)).opNumber = 1 ∧ (Request.toInstr (.waitready 3)).opNumber = 6 := by decide

theorem witness_PowerStateIsReachedByItsCall :
    CsmCall.initCall.mayLeave .sleeping .ready = true ∧ CsmCall.sleepCall.mayLeave .ready .sleeping = true ∧
    CsmCall.resetCall.mayLeave .reserved .reserved = true ∧ CsmCall.resetCall.mayLeave .sleeping .uninitialized = true := by
  decide
/-- R220, R224: neither `reset()` nor a second call of another kind leads from Sleeping to Ready. -/
theorem test_only_initialize_reaches_ready :
    CsmCall.resetCall.mayLeave .sleeping .ready = false ∧ CsmCall.refreshCall.mayLeave .sleeping .ready = false ∧
    CsmCall.sleepCall.mayLeave .uninitialized .sleeping = false := by decide

/-- The state after the acceptance tick of `d`, with `k` ticks to come that take everything. -/
def started (s : State) (d : Descriptor) (k : Nat) : Option State :=
  match step (taking (asking s d) (k + 1)) with
  | .next t => some t
  | .fault _ => none
  | .refused _ => none

/-- That state runs `k` busy ticks to IDLE, and in them there is no reset and every event is taken. -/
def runsToIdle (s : State) (d : Descriptor) (k : Nat) : Bool :=
  match started s d k with
  | some u =>
    (match busyRun k u with
      | some t => t.ph == .idle
      | none => false) && (List.range k).all fun j => !(u.pinsAt j).rst && (u.pinsAt j).evReady
  | none => false

theorem runsToIdle_sound {s : State} {d : Descriptor} {k : Nat} (h : runsToIdle s d k = true) :
    ∃ u, started s d k = some u ∧ u.NoReset k ∧ u.Takes k ∧ ∃ t, Busy k u t ∧ t.ph = .idle := by
  unfold runsToIdle at h
  split at h
  · rename_i u hu
    rw [Bool.and_eq_true] at h
    obtain ⟨h1, h2⟩ := h
    split at h1
    · rename_i t ht
      simp only [List.all_eq_true, List.mem_range, Bool.and_eq_true, Bool.not_eq_true'] at h2
      exact ⟨u, hu, fun j hj => (h2 j hj).1, fun j hj => (h2 j hj).2, t, busyRun_sound ht, by simpa using h1⟩
    · exact absurd h1 (by simp)
  · exact absurd h (by simp)

/-- V19: the smallest fill, thirteen events. -/
theorem witness_FillEmitsItsTrace :
    BlockInv idle ∧ idle.ph = .idle ∧ idle.pins.pstate = .ready ∧ geomOk idle.cfg 0 0 1 1 = true ∧
    ∃ u, started idle 0x00010001000000008002 13 = some u ∧ u.NoReset 13 ∧ u.Takes 13 ∧ ∃ t, Busy 13 u t ∧ t.ph = .idle :=
  ⟨inv_idle, rfl, rfl, by decide, runsToIdle_sound (by decide)⟩
/-- V29a, T1: a buffer of one byte. -/
theorem witness_RawbufEmitsTheBuffer :
    let s : State := { taking idle 14 with pixbuf := Memory.ofBytes [0x5A] }
    BlockInv s ∧ s.ph = .idle ∧ s.pins.pstate = .ready ∧ geomOk s.cfg 0 0 8 1 = true ∧
    (∀ j < rawLength 8 1, Memory.read s.pixbuf j = some 0x5A) ∧ s.KeepsBuffer (13 + 1) ∧
    ∃ u, started s 0x00010008000000000023 13 = some u ∧ u.NoReset 13 ∧ u.Takes 13 ∧ ∃ t, Busy 13 u t ∧ t.ph = .idle :=
  ⟨inv_of_idle rfl (by decide) (by decide) (by decide) rfl, rfl, rfl, by decide, by decide, by unfold State.KeepsBuffer; decide,
    runsToIdle_sound (by decide)⟩
/-- V28's window: no byte of payload, twelve events. -/
theorem witness_RawbufAbsentEmitsZeros :
    BlockInv idle ∧ idle.ph = .idle ∧ idle.pins.pstate = .ready ∧ geomOk idle.cfg 0 0 7 4 = true ∧ rawLength 7 4 + 12 = 12 ∧
    ∃ u, started idle 0x00040007000000000003 12 = some u ∧ u.NoReset 12 ∧ u.Takes 12 ∧ ∃ t, Busy 12 u t ∧ t.ph = .idle :=
  ⟨inv_idle, rfl, rfl, by decide, by decide, runsToIdle_sound (by decide)⟩
/-- V31. -/
theorem witness_GlyphEmitsItsTrace :
    BlockInv idle ∧ idle.ph = .idle ∧ idle.pins.pstate = .ready ∧ glyphOk idle.cfg 0x41 = true ∧
    geomOk idle.cfg 16 32 8 16 = true ∧
    ∃ u, started idle 0x00000000002000104104 29 = some u ∧ u.NoReset 29 ∧ u.Takes 29 ∧ ∃ t, Busy 29 u t ∧ t.ph = .idle :=
  ⟨inv_idle, rfl, rfl, by decide, by decide, runsToIdle_sound (by decide)⟩
theorem witness_ClearEmitsItsTrace :
    BlockInv idleTiny ∧ idleTiny.ph = .idle ∧ idleTiny.pins.pstate = .ready ∧ 2 * idleTiny.cfg.panelBytes + 4 = 6 ∧
    ∃ u, started idleTiny 5 6 = some u ∧ u.NoReset 6 ∧ u.Takes 6 ∧ ∃ t, Busy 6 u t ∧ t.ph = .idle :=
  ⟨inv_idleTiny, rfl, rfl, by decide, runsToIdle_sound (by decide)⟩
/-- One event left, and a stall before it is taken. -/
theorem witness_DrawEndsUnderAFairCollaborator :
    let s : State :=
      { leaving with pins := levels .ready true false, script := [⟨levels .ready true true, none⟩] }
    BlockInv s ∧ s.ph ≠ .idle ∧ s.ph ≠ .poll ∧ s.NoReset 2 ∧ s.eventsLeft = 1 ∧ s.eventsLeft ≤ s.readyTicks 2 := by
  refine ⟨?_, by decide, by decide, by unfold State.NoReset; decide, by decide, by decide⟩
  constructor <;> (try unfold framedInv) <;> decide
/-- Both clauses at their ends: TMO = 0 with a ready line (V50) and a busy one (V51); and the last poll of TMO = 1 (V55). -/
theorem witness_WaitreadyEndsWithinItsBound :
    (let u : State := { idle with ph := .poll, sync1 := true }
     u.NoReset (0 + 1) ∧ (∀ m < 0, u.syncAt m = false) ∧ u.syncAt 0 = true) ∧
    (let u : State := { idle with ph := .poll }
     u.NoReset (0 + 1) ∧ ∀ m ≤ 0, u.syncAt m = false) ∧
    (let u : State := { taking idle 1 with ph := .poll, sync0 := true }
     u.NoReset (1 + 1) ∧ (∀ m < 1, u.syncAt m = false) ∧ u.syncAt 1 = true) := by
  unfold State.NoReset; decide
theorem witness_EachPollTickMakesOnePoll :
    (polling.ph = .poll ∧ polling.pins.rst = false ∧ { polling with sync1 := true }.sync1 = true) ∧
    (polling.sync1 = false ∧ polling.elapsed = polling.lat.y ++ polling.lat.x) ∧
    (let s : State := { polling with elapsed := 1 }
     s.sync1 = false ∧ s.elapsed ≠ s.lat.y ++ s.lat.x) := by decide
theorem witness_SynchronizerShiftsEveryTick : polling.pins.rst = false ∧ polling.ph = .poll ∧ ∃ t, step polling = .next t :=
  ⟨rfl, rfl, _, rfl⟩
theorem witness_SynchronizedValueIsTwoTicksOld :
    ((taking idle 1).NoReset 2 ∧ ∃ t, Ticks 2 (taking idle 1) t) ∧
    (let s : State := { taking idle 1 with pins := { idle.pins with rst := true } }
     s.pins.rst = true ∧ ∃ t u, step s = .next t ∧ step t = .next u) :=
  ⟨⟨by unfold State.NoReset; decide, _, .tick rfl (.tick rfl (.zero _))⟩, rfl, _, _, rfl, rfl⟩
/-- A payload byte is on offer, and the caller presents another buffer in the next tick. -/
theorem witness_UntakenEventIsHeld :
    let s : State :=
      { paying with
        pins := levels .ready true false, script := [⟨levels .ready true true, some [0x77]⟩] }
    s.pins.rst = false ∧ s.pins.evReady = false ∧ s.event = some (.data 0x5A) ∧ ∃ t, step s = .next t :=
  ⟨rfl, rfl, by decide, _, rfl⟩
theorem witness_BusGrowsByTheTakenEvent :
    ((∃ t, step leaving = .next t) ∧ leaving.event = some (.cmd 0x92) ∧ leaving.pins.evReady = true) ∧
    ((∃ t, step idle = .next t) ∧ idle.event = none) ∧
    (let s : State := { leaving with pins := { levels .ready true true with rst := true } }
     (∃ t, step s = .next t) ∧ s.event = some (.cmd 0x92) ∧ s.pins.evReady = true) :=
  ⟨⟨⟨_, rfl⟩, by decide, rfl⟩, ⟨⟨_, rfl⟩, rfl⟩, ⟨_, rfl⟩, by decide, rfl⟩
theorem witness_EventIsOfferedExactlyWhenBusy : BlockInv leaving ∧ BlockInv idle ∧ BlockInv polling :=
  ⟨inv_leaving, inv_idle, inv_polling⟩
theorem witness_ReadsStayInRange :
    (BlockInv paying ∧ paying.bufIdx = some 0) ∧ (BlockInv (paintingGlyph 4) ∧ (paintingGlyph 4).glyphIdx = some (33, 2)) :=
  ⟨⟨inv_paying, by decide⟩, inv_painting, by decide⟩
/-- The first byte of a two-byte buffer is taken, and a content byte of a glyph. -/
theorem witness_EachByteIsReadOnce :
    (BlockInv (taking paying 1) ∧ paying.pins.rst = false ∧ paying.ph = .pay ∧
      ∃ t, step (taking paying 1) = .next t ∧ t.bufReads = some 1) ∧
    (BlockInv (taking (paintingGlyph 4) 1) ∧ ∃ t, step (taking (paintingGlyph 4) 1) = .next t ∧ t.glyphReads = some (33, 3)) := by
  refine ⟨⟨?_, rfl, rfl, _, rfl, by decide⟩, ?_, _, rfl, by decide⟩
  all_goals constructor <;> (try unfold framedInv) <;> decide
theorem witness_GlyphPayloadBytes :
    glyphOk (paintingGlyph 2).cfg (paintingGlyph 2).lat.arg = true ∧ (paintingGlyph 2).ph = .pay ∧ (paintingGlyph 2).lat.op = 4 ∧
    (2 ≤ (paintingGlyph 2).i.toNat ∧ (paintingGlyph 14).i.toNat ≤ 14) ∧ (paintingGlyph 1).i.toNat < 2 ∧
    14 < (paintingGlyph 15).i.toNat := by decide
/-- A margin byte, and a content byte whose complement `3C` is V31's and which is `C3` in V32. -/
theorem witness_GlyphColoursAreComplements :
    (let s := paintingGlyph 4
     State.glyphPayload { s with lat := { s.lat with color := false } } 0 = .ok 0xFF ∧
     State.glyphPayload { s with lat := { s.lat with color := true } } 0 = .ok 0x00) ∧
    (let s := paintingGlyph 4
     State.glyphPayload { s with lat := { s.lat with color := false } } 4 = .ok 0x3C ∧
     State.glyphPayload { s with lat := { s.lat with color := true } } 4 = .ok 0xC3) := ⟨⟨rfl, rfl⟩, rfl, rfl⟩
theorem witness_CheckedPayloadFits :
    Config.legal { vcfg with panelW := 256, panelH := 512 } = true ∧
    geomOk { vcfg with panelW := 256, panelH := 512 } 0 0 256 512 = true ∧ geomOk vcfg 0 0 1 1 = true := by decide
/-- A tick without a request; a rejected one; one that starts a draw; the last of a draw. -/
theorem witness_ResponseStaysUntilTheNextRequest :
    (BlockInv idle ∧ idle.pins.rst = false ∧ idle.ph = .idle ∧ idle.pins.reqValid = false ∧ ∃ t, step idle = .next t) ∧
    (BlockInv (asking idle 7) ∧ (asking idle 7).pins.reqValid = true ∧ ∃ t, step (asking idle 7) = .next t ∧ t.ph = .idle) ∧
    (BlockInv (asking idle 5) ∧ ∃ t, step (asking idle 5) = .next t ∧ t.ph ≠ .idle) ∧
    (BlockInv leaving ∧ leaving.ph ≠ .idle ∧ ∃ t, step leaving = .next t ∧ t.ph = .idle) :=
  ⟨⟨inv_idle, rfl, rfl, rfl, _, rfl⟩,
    ⟨inv_of_idle rfl (by decide) (by decide) (by decide) rfl, rfl, _, rfl, rfl⟩,
    ⟨inv_of_idle rfl (by decide) (by decide) (by decide) rfl, _, rfl, by decide⟩,
    ⟨inv_leaving, by decide, _, rfl, rfl⟩⟩
/-- A step inside a phase, and one from a phase to the next. -/
theorem witness_SequencerNeverMovesBack :
    (BlockInv paying ∧ paying.pins.rst = false ∧ paying.ph ≠ .idle ∧ ∃ t, step paying = .next t ∧ t.ph = paying.ph) ∧
    (∃ s t, BlockInv s ∧ s.pins.rst = false ∧ step s = .next t ∧ s.ph ≠ .idle ∧ t.ph ≠ .idle ∧ t.ph ≠ s.ph) := by
  refine ⟨⟨inv_paying, rfl, by decide, _, rfl, rfl⟩, { paying with ph := .settle, i := 2 }, _, ?_, rfl, rfl, by decide, by decide,
    by decide⟩
  constructor <;> (try unfold framedInv) <;> decide
theorem witness_RunningTickFrame :
    (paying.ph ≠ .idle ∧ paying.pins.rst = false ∧ (∃ t, step paying = .next t) ∧ paying.ph ≠ .poll ∧ paying.ph.framed = true) ∧
    (polling.ph = .poll ∧ (∃ t, step polling = .next t) ∧ polling.ph.framed = false) :=
  ⟨⟨by decide, rfl, ⟨_, rfl⟩, by decide, rfl⟩, rfl, ⟨_, rfl⟩, rfl⟩
theorem witness_ConfigurationAndSpacesAreOnlyRead :
    ((∃ t, step (taking paying 1) = .next t) ∧ (taking paying 1).bufferAt 0 = none) ∧
    (let s : State := { paying with script := [⟨levels .ready true true, some [0x77]⟩] }
     (∃ t, step s = .next t) ∧ s.bufferAt 0 = some [0x77]) := ⟨⟨⟨_, rfl⟩, rfl⟩, ⟨_, rfl⟩, rfl⟩
theorem witness_ResetTick : { paying with pins := { levels .ready true false with rst := true } }.pins.rst = true := rfl
theorem witness_ResetCutsTheOperation :
    let s : State := { paying with pins := { levels .ready true false with rst := true } }
    s.pins.rst = true ∧ s.ph ≠ .idle ∧ s.pins.evReady = false ∧ ∃ t, step s = .next t := ⟨rfl, by decide, rfl, _, rfl⟩
theorem witness_StepKeepsTheInvariant : BlockInv paying ∧ ∃ t, step paying = .next t := ⟨inv_paying, _, rfl⟩
theorem witness_BlockNeverStops : BlockInv paying ∧ BlockInv leaving ∧ BlockInv polling := ⟨inv_paying, inv_leaving, inv_polling⟩
/-- Two blocks with different pasts; a draw, and a WAITREADY. -/
theorem witness_EarlierOperationsDoNotMatter :
    let a : State := taking idle 2
    let b : State := { taking idle 2 with status := .invalidOp, rspValid := true, win := ⟨8, 15, 1, 1⟩, n := 5, i := 5, idx := 6, elapsed := 9,
                                          lat := ⟨3, true, true, 7, 1, 2, 3, 4⟩, bus := [.cmd 1] }
    a.ph = .idle ∧ b.ph = .idle ∧ a.cfg = b.cfg ∧ a.pixbuf = b.pixbuf ∧ a.glyphRom = b.glyphRom ∧ a.pins = b.pins ∧
    a.script = b.script ∧ a.tick = b.tick ∧ (a.sync0 = b.sync0 ∧ a.sync1 = b.sync1) ∧
    (∃ x y, exec (Request.toInstr .clear) a = .next x ∧ exec (Request.toInstr .clear) b = .next y ∧ ∃ t, Busy 1 x.endTick t) ∧
    (∃ x y, exec (Request.toInstr (.waitready 0)) a = .next x ∧ exec (Request.toInstr (.waitready 0)) b = .next y ∧
      ∃ t, Busy 1 x.endTick t ∧ t.ph = .idle) :=
  ⟨rfl, rfl, rfl, rfl, rfl, rfl, rfl, rfl, ⟨rfl, rfl⟩,
    ⟨_, _, rfl, rfl, _, .tick (by decide) rfl rfl (.zero _)⟩,
    ⟨_, _, rfl, rfl, _, .tick (by decide) rfl rfl (.zero _), rfl⟩⟩

end Sys2Proof.Tests.Slice0
end

/-! ## PROOFS. The step and the request port, the payload's length, the invariant -/

namespace Sys2Proof.Machine

variable {s u : State} {o : Operands}

/-! ### The step without reset -/

theorem step_eq_of_no_reset (h : s.pins.rst = false) : step s = onNext State.endTick s.blockTick := by
  simp [step, h]

theorem State.blockTick_request {i : Instr} (hv : s.pins.reqValid = true) (hd : decode s.pins.reqDesc = .ok i) :
    s.blockTick = exec i s := by
  simp [State.blockTick, hv, hd]

theorem State.blockTick_no_request (hv : s.pins.reqValid = false) : s.blockTick = s.runTick := by
  simp [State.blockTick, hv]

theorem State.runTick_idle (hp : s.ph = .idle) : s.runTick = .next s := by
  simp [State.runTick, hp]

/-- Settles O7: the three clauses are the tick of a decoded request, of an idle block, and of a busy block. -/
theorem stepRunsTheRequest : Obligations.StepRunsTheRequest := by
  intro s hr
  rw [step_eq_of_no_reset hr]
  refine ⟨fun i hv hd => ?_, fun hp hv => ?_, fun hp => ?_⟩
  · rw [State.blockTick_request hv hd]
  · rw [State.blockTick_no_request hv, State.runTick_idle hp]
    rfl
  · rw [State.blockTick_busy hp]

/-! ### The payload of a checked request -/

/-- The quantised start is not negative, so the width alone fits the byte columns (R206). -/
theorem ceilDiv8_le_byteW {c : Config} {x y w h : Word} (hg : geomOk c x y w h = true) :
    ceilDiv8 w.toNat ≤ c.byteW := by
  obtain ⟨-, -, hx, -⟩ := (geomOk_iff c x y w h).1 hg
  unfold ceilDiv8
  omega

theorem fillLength_le_panelBytes {c : Config} {x y w h : Word} (hg : geomOk c x y w h = true) :
    fillLength w h ≤ c.panelBytes := by
  obtain ⟨-, -, -, hy⟩ := (geomOk_iff c x y w h).1 hg
  exact Nat.mul_le_mul (ceilDiv8_le_byteW hg) (by omega)

theorem rawLength_le_fillLength (w h : Word) : rawLength w h ≤ fillLength w h :=
  Nat.mul_le_mul_right _ (Nat.div_le_div_right (Nat.le_add_right _ 7))

/-- Settles O43: a checked rectangle is at most `BYTE_W` bytes wide and `PANEL_H` rows high. -/
theorem checkedPayloadFits : Obligations.CheckedPayloadFits := by
  intro c x y w h hc hg
  obtain ⟨-, -, -, hpanel⟩ := Config.legal_bounds hc
  exact ⟨fillLength_le_panelBytes hg, rawLength_le_fillLength w h, hpanel, rfl⟩

/-- A checked payload fits the 16-bit counter N. -/
theorem fillLength_lt {c : Config} {x y w h : Word} (hc : c.legal = true) (hg : geomOk c x y w h = true) :
    fillLength w h < 2 ^ 16 := by
  have hfill := fillLength_le_panelBytes hg
  obtain ⟨-, -, -, hpanel⟩ := Config.legal_bounds hc
  omega

/-! ### Ways to meet the invariant, one for each kind of phase -/

theorem BlockInv.of_idle (hp : s.ph = .idle) (hc : s.cfg.legal = true) (hpix : Memory.wf s.pixbuf = true)
    (hrom : Memory.wf s.glyphRom = true) (hheld : s.held = none) : BlockInv s where
  cfg_legal := hc
  pixbuf_wf := hpix
  glyphRom_wf := hrom
  framed hq := by simp [hp, Phase.framed] at hq
  win_idx hq := by simp [hp] at hq
  pay_index hq := by simp [hp] at hq
  clearing hq := by simp [hp, Phase.clearing] at hq
  clear_index hq := by simp [hp] at hq
  polling hq := by simp [hp] at hq
  held_pay hq := absurd hheld hq
  busy_no_response hb := absurd hp hb

/-- What the invariant says of every phase alike, when no payload byte is held and no response stands: the block right
after it has latched a request, or after an event of the running operation is taken. -/
structure Unanswered (s : State) : Prop where
  cfg_legal : s.cfg.legal = true
  pixbuf_wf : Memory.wf s.pixbuf = true
  glyphRom_wf : Memory.wf s.glyphRom = true
  held_none : s.held = none
  no_response : s.rspValid = false

theorem Unanswered.respond (h : Unanswered s) (c : Code) : BlockInv (s.respond c) :=
  .of_idle rfl h.cfg_legal h.pixbuf_wf h.glyphRom_wf h.held_none

theorem Phase.not_clearing_of_framed {p : Phase} (h : p.framed = true) : p.clearing = false := by
  cases p <;> simp_all [Phase.framed, Phase.clearing]

theorem Unanswered.framed (h : Unanswered s) (hp : s.ph.framed = true) (hf : framedInv s)
    (hw : s.ph = .win → s.idx.toNat ≤ 6 := by simp) (hi : s.ph = .pay → s.i.toNat < s.n.toNat := by simp) :
    BlockInv s where
  cfg_legal := h.cfg_legal
  pixbuf_wf := h.pixbuf_wf
  glyphRom_wf := h.glyphRom_wf
  framed _ := hf
  win_idx := hw
  pay_index := hi
  clearing hq := by simp [Phase.not_clearing_of_framed hp] at hq
  clear_index hq := by rcases hq with hq | hq <;> simp [hq, Phase.framed] at hp
  polling hq := by simp [hq, Phase.framed] at hp
  held_pay hq := absurd h.held_none hq
  busy_no_response _ := h.no_response

theorem Unanswered.clearing (h : Unanswered s) (hp : s.ph.clearing = true) (hop : s.lat.op = 5)
    (hi : s.ph = .c1data ∨ s.ph = .c2data → s.n.toNat = s.cfg.panelBytes ∧ s.i.toNat < s.n.toNat := by simp) :
    BlockInv s where
  cfg_legal := h.cfg_legal
  pixbuf_wf := h.pixbuf_wf
  glyphRom_wf := h.glyphRom_wf
  framed hq := by simp [Phase.not_clearing_of_framed hq] at hp
  win_idx hq := by simp [hq, Phase.clearing] at hp
  pay_index hq := by simp [hq, Phase.clearing] at hp
  clearing _ := hop
  clear_index := hi
  polling hq := by simp [hq, Phase.clearing] at hp
  held_pay hq := absurd h.held_none hq
  busy_no_response _ := h.no_response

theorem Unanswered.polling (h : Unanswered s) (hp : s.ph = .poll) (hop : s.lat.op = 6)
    (he : s.elapsed.toNat ≤ s.lat.tmo.toNat) : BlockInv s where
  cfg_legal := h.cfg_legal
  pixbuf_wf := h.pixbuf_wf
  glyphRom_wf := h.glyphRom_wf
  framed hq := by simp [hp, Phase.framed] at hq
  win_idx hq := by simp [hp] at hq
  pay_index hq := by simp [hp] at hq
  clearing hq := by simp [hp, Phase.clearing] at hq
  clear_index hq := by simp [hp] at hq
  polling _ := ⟨hop, he⟩
  held_pay hq := absurd h.held_none hq
  busy_no_response _ := h.no_response

/-! ### The invariant gives back what a tick starts from -/

theorem BlockInv.held_none (h : BlockInv s) (hp : s.ph ≠ .pay) : s.held = none :=
  Classical.not_not.1 fun hheld => hp (h.held_pay hheld)

theorem BlockInv.unanswered (h : BlockInv s) (hb : s.ph ≠ .idle) (hheld : s.held = none) : Unanswered s :=
  ⟨h.cfg_legal, h.pixbuf_wf, h.glyphRom_wf, hheld, h.busy_no_response hb⟩

theorem BlockInv.unanswered_latch (h : BlockInv s) (hp : s.ph = .idle) (o : Operands) : Unanswered (s.latch o) :=
  ⟨h.cfg_legal, h.pixbuf_wf, h.glyphRom_wf, h.held_none (by simp [hp]), rfl⟩

/-! ### The end of a tick, and reset -/

theorem BlockInv.nextTick (h : BlockInv s) : BlockInv s.nextTick :=
  { h with pixbuf_wf := State.nextTick_pixbuf_wf h.pixbuf_wf }

/-- The synchronizer is not in the invariant. -/
theorem BlockInv.shiftSync (h : BlockInv s) : BlockInv s.shiftSync := { h with }

theorem BlockInv.endTick (h : BlockInv s) : BlockInv s.endTick := h.shiftSync.nextTick

theorem BlockInv.taken (h : BlockInv s) (e : Event) : BlockInv (s.taken e) :=
  { h with held_pay := fun hheld => absurd rfl hheld }

/-- In a reset tick an event on offer is on BUS exactly when the collaborator takes it. -/
theorem State.resetBus_cases (s : State) :
    (∃ e, s.offered = .ok (some e) ∧ s.pins.evReady = true ∧ s.resetBus = s.taken e) ∨
    ((∀ e, s.offered = .ok (some e) → s.pins.evReady = false) ∧ s.resetBus = s) := by
  unfold State.resetBus
  split
  · rename_i e he
    cases hv : s.pins.evReady
    · exact .inr ⟨fun _ _ => rfl, rfl⟩
    · exact .inl ⟨e, he, rfl, rfl⟩
  · rename_i hno
    exact .inr ⟨fun e he => absurd he (hno e), rfl⟩

theorem BlockInv.resetBus (h : BlockInv s) : BlockInv s.resetBus := by
  rcases s.resetBus_cases with ⟨e, -, -, heq⟩ | ⟨-, heq⟩ <;> rw [heq]
  · exact h.taken e
  · exact h

theorem BlockInv.resetRegs (h : BlockInv s) : BlockInv s.resetRegs :=
  .of_idle rfl h.cfg_legal h.pixbuf_wf h.glyphRom_wf rfl

theorem BlockInv.resetTick (h : BlockInv s) : BlockInv s.resetTick := h.resetBus.resetRegs.nextTick

theorem Config.default152_legal : Config.default152.legal = true := by
  rw [Config.legal_iff]
  have := Config.glyphNOpen.isLt
  simp only [Config.default152]
  omega

/-- Settles O51: the panel of 152 by 152 is legal with each of the 224 table sizes, and the spaces list nothing. -/
theorem invariantHoldsAtReset : Obligations.InvariantHoldsAtReset :=
  .of_idle rfl Config.default152_legal rfl rfl rfl

/-! ### Acceptance -/

/-- A framed operation starts: what is left to show is that the latches, the window and N are one request's. -/
theorem Unanswered.startFrame (h : Unanswered s) (w : WindowRect) (m : Nat)
    (hf : framedInv ((s.setWindow w).startFrame m)) : BlockInv ((s.setWindow w).startFrame m) :=
  Unanswered.framed { h with } rfl hf

theorem Unanswered.startWindow (h : Unanswered s) : BlockInv (startWindow s) :=
  Unanswered.respond (s := s.setWindow (computeWindow s.lat.x s.lat.y s.lat.w s.lat.h)) { h with } .ok

theorem Unanswered.startFill (h : Unanswered s) (hop : s.lat.op = 2) (hc : checkFill s = none) :
    BlockInv (startFill s) := by
  obtain ⟨-, hg⟩ := (checkFill_none_iff s).1 hc
  have hn := fillLength_lt h.cfg_legal hg
  exact h.startFrame _ _ (.inl ⟨hop, hg, rfl, Nat.mod_eq_of_lt hn⟩)

theorem Unanswered.startRawbuf (h : Unanswered s) (hop : s.lat.op = 3) (hc : checkRawbuf s = none) :
    BlockInv (startRawbuf s) := by
  obtain ⟨-, hg⟩ := (checkRawbuf_none_iff s).1 hc
  have hn := (rawLength_le_fillLength _ _).trans_lt (fillLength_lt h.cfg_legal hg)
  exact h.startFrame _ _ (.inr (.inl ⟨hop, hg, rfl, Nat.mod_eq_of_lt hn⟩))

theorem Unanswered.startGlyph (h : Unanswered s) (hop : s.lat.op = 4) (hc : checkGlyph s = none) :
    BlockInv (startGlyph s) := by
  obtain ⟨-, hcode, hg⟩ := (checkGlyph_none_iff s).1 hc
  exact h.startFrame _ _ (.inr (.inr ⟨hop, hcode, hg, rfl, rfl⟩))

theorem Unanswered.startClear (h : Unanswered s) (hop : s.lat.op = 5) : BlockInv s.startClear :=
  Unanswered.clearing { h with } rfl hop

theorem Unanswered.startPoll (h : Unanswered s) (hop : s.lat.op = 6) : BlockInv s.startPoll :=
  Unanswered.polling { h with } rfl hop (Nat.zero_le _)

/-- A request at an idle block is rejected, which keeps the invariant, or passes its checks and starts. -/
theorem BlockInv.offerRequest {check : State → Option Code} {start : State → State} (h : BlockInv s)
    (hp : s.ph = .idle) (hu : s.offerRequest o check start = .next u)
    (hstart : check (s.latch o) = none → BlockInv (start (s.latch o))) : BlockInv u := by
  rw [State.offerRequest_idle hp] at hu
  obtain rfl : s.accept o check start = u := by simpa using hu
  rcases State.accept_cases (s := s) o check start with ⟨c, -, heq⟩ | ⟨hc, heq⟩ <;> rw [heq]
  · exact (h.unanswered_latch hp o).respond c
  · exact hstart hc

theorem BlockInv.exec (h : BlockInv s) (hp : s.ph = .idle) (i : Instr) (hu : exec i s = .next u) : BlockInv u := by
  have hl := h.unanswered_latch hp i.operands
  cases i with
  | window => exact h.offerRequest hp hu fun _ => hl.startWindow
  | fill => exact h.offerRequest hp hu (hl.startFill rfl)
  | rawbuf => exact h.offerRequest hp hu (hl.startRawbuf rfl)
  | glyph => exact h.offerRequest hp hu (hl.startGlyph rfl)
  | clear => exact h.offerRequest hp hu fun _ => hl.startClear rfl
  | waitready => exact h.offerRequest hp hu fun _ => hl.startPoll rfl

/-! ### The ticks of a running operation -/

theorem BlockInv.poll (h : BlockInv s) (hp : s.ph = .poll) : BlockInv s.poll := by
  have hq := h.unanswered (by simp [hp]) (h.held_none (by simp [hp]))
  rcases s.poll_cases with ⟨-, heq⟩ | ⟨-, -, heq⟩ | ⟨-, hne, heq⟩ <;> rw [heq]
  · exact hq.respond _
  · exact hq.respond _
  · obtain ⟨hop, hle⟩ := h.polling hp
    exact Unanswered.polling { hq with } hp hop (by simp only []; bv_omega)

theorem BlockInv.stall (h : BlockInv s) (e : Event) : BlockInv (s.stall e) := by
  unfold State.stall
  split
  · exact { h with held_pay := fun _ => ‹s.ph = .pay› }
  · exact h

/-- A counter below its end that does not reach it in the next count stays below it. -/
theorem toNat_add_one_lt {i n : Word} (hi : i.toNat < n.toNat) (hne : i + 1 ≠ n) : (i + 1).toNat < n.toNat := by
  bv_omega

/-- The payload is counted: either the frame goes on to SETTLE or I stays below N (R159). -/
theorem Unanswered.countPayload (h : Unanswered s) (hp : s.ph = .pay) (hf : framedInv s)
    (hi : s.i.toNat < s.n.toNat) : BlockInv (s.countByte .settle) := by
  rcases State.countByte_cases (s := s) .settle with ⟨-, heq⟩ | ⟨hne, heq⟩ <;> rw [heq]
  · exact Unanswered.framed { h with } rfl hf
  · exact Unanswered.framed { h with } (by simp [hp, Phase.framed]) hf (by simp [hp]) fun _ => toNat_add_one_lt hi hne

/-- A byte of CLEAR is counted: either its delay follows or I stays below PANEL_BYTES (R166). -/
theorem Unanswered.countClear (h : Unanswered s) {p : Phase} (hp : s.ph.clearing = true) (hop : s.lat.op = 5)
    (hdata : s.n.toNat = s.cfg.panelBytes ∧ s.i.toNat < s.n.toNat)
    (hnext : p = .c1dly ∨ p = .c2dly) : BlockInv (s.countByte p) := by
  rcases State.countByte_cases (s := s) p with ⟨-, heq⟩ | ⟨hne, heq⟩ <;> rw [heq]
  · rcases hnext with rfl | rfl <;> exact Unanswered.clearing { h with } rfl hop
  · exact Unanswered.clearing { h with } hp hop fun _ => ⟨hdata.1, toNat_add_one_lt hdata.2 hne⟩

/-- PANEL_BYTES fits N and is not 0, so the data of a channel starts below its end (R12, R165). -/
theorem Unanswered.startClearData (h : Unanswered s) {p : Phase} (hop : s.lat.op = 5) (hp : p.clearing = true) :
    BlockInv (s.startClearData p) := by
  obtain ⟨-, -, hpos, hle⟩ := Config.legal_bounds h.cfg_legal
  have hn : (BitVec.ofNat 16 s.cfg.panelBytes).toNat = s.cfg.panelBytes := Nat.mod_eq_of_lt (by omega)
  exact Unanswered.clearing { h with } hp hop fun _ => ⟨hn, hn.symm ▸ hpos⟩

/-- A transition to a framed phase whose position needs no bound. -/
theorem Unanswered.gotoFramed (h : Unanswered s) {p : Phase} (hf : framedInv s) (hp : p.framed = true)
    (hwin : p ≠ .win) (hpay : p ≠ .pay) : BlockInv (s.goto p) :=
  Unanswered.framed { h with } hp hf (fun hq => absurd hq hwin) (fun hq => absurd hq hpay)

/-- The last of the window bytes leads to DTM; before it IDX stays at most 6 (R157). -/
theorem Unanswered.advanceWin (h : Unanswered s) (hf : framedInv s) (hidx : s.idx.toNat ≤ 6) :
    BlockInv (if s.idx = 6 then s.goto .dtm else { s with ph := .win, idx := s.idx + 1 }) := by
  split
  · exact h.gotoFramed hf rfl nofun nofun
  · rename_i hne
    have hnext : (s.idx + 1).toNat ≤ 6 := by bv_omega
    exact Unanswered.framed { h with } rfl hf (fun _ => hnext)

/-- PAY is entered at I = 0 and only with a payload (R158). -/
theorem Unanswered.advanceDtm (h : Unanswered s) (hf : framedInv s) :
    BlockInv { s with i := 0, ph := if s.n = 0 then .settle else .pay } := by
  split
  · exact Unanswered.framed { h with } rfl hf
  · rename_i hne
    have hpos : 0 < s.n.toNat := by bv_omega
    exact Unanswered.framed { h with } rfl hf (by simp) (fun _ => hpos)

/-- The transition of each phase, when its event is taken. -/
theorem BlockInv.advance (h : BlockInv s) (hb : s.ph ≠ .idle) (hheld : s.held = none) : BlockInv s.advance := by
  have hq := h.unanswered hb hheld
  unfold State.advance
  cases hp : s.ph with
  | idle => exact h
  | poll => exact h
  | ptin => exact hq.gotoFramed (h.framed (hp ▸ rfl)) rfl nofun nofun
  | ptl => exact Unanswered.framed { hq with } rfl (h.framed (hp ▸ rfl)) (by simp)
  | win => exact hq.advanceWin (h.framed (hp ▸ rfl)) (h.win_idx hp)
  | dtm => exact hq.advanceDtm (h.framed (hp ▸ rfl))
  | pay => exact hq.countPayload hp (h.framed (hp ▸ rfl)) (h.pay_index hp)
  | settle => exact hq.gotoFramed (h.framed (hp ▸ rfl)) rfl nofun nofun
  | ptout => exact hq.respond .ok
  | c1cmd => exact hq.startClearData (h.clearing (hp ▸ rfl)) rfl
  | c1data => exact hq.countClear (hp ▸ rfl) (h.clearing (hp ▸ rfl)) (h.clear_index (.inl hp)) (.inl rfl)
  | c1dly => exact Unanswered.clearing { hq with } rfl (h.clearing (hp ▸ rfl))
  | c2cmd => exact hq.startClearData (h.clearing (hp ▸ rfl)) rfl
  | c2data => exact hq.countClear (hp ▸ rfl) (h.clearing (hp ▸ rfl)) (h.clear_index (.inr hp)) (.inr rfl)
  | c2dly => exact hq.respond .ok

theorem BlockInv.handshake (h : BlockInv s) (hb : s.ph ≠ .idle) (e : Event) : BlockInv (s.handshake e) := by
  rcases State.handshake_cases (s := s) e with ⟨-, heq⟩ | ⟨-, heq⟩ <;> rw [heq]
  · exact (h.taken e).advance hb rfl
  · exact h.stall e

theorem BlockInv.runTick (h : BlockInv s) (hu : s.runTick = .next u) : BlockInv u := by
  rcases State.runTick_cases hu with ⟨-, rfl⟩ | ⟨hp, rfl⟩ | ⟨e, hb, -, -, rfl⟩
  · exact h
  · exact h.poll hp
  · exact h.handshake hb e

/-! ### The step -/

/-- Settles O52, by what a step can do: a reset, a running operation's tick, an idle tick, an accepted request, or a
rejected descriptor; the world's inputs enter at the tick's end only. -/
theorem stepKeepsTheInvariant : Obligations.StepKeepsTheInvariant := by
  intro s t h hstep
  rcases step_cases hstep with ⟨-, rfl⟩ | ⟨-, -, u, hu, rfl⟩ | ⟨-, -, -, rfl⟩ |
    ⟨-, hp, -, ⟨i, u, -, hu, rfl⟩ | ⟨r, -, rfl⟩⟩
  · exact h.resetTick
  · exact (h.runTick hu).endTick
  · exact h.endTick
  · exact (h.exec hp i hu).endTick
  · exact ((h.unanswered_latch hp _).respond _).endTick

end Sys2Proof.Machine

/-! ## PROOFS. Acceptance in one form, and two blocks in step (R43) -/

namespace Sys2Proof.Machine

variable {s t u a b : State} {e : Event}

/-! ### The tick of a running operation -/

theorem step_busy (hb : s.ph ≠ .idle) (hr : s.pins.rst = false) : step s = onNext State.endTick s.runTick := by
  rw [step_eq_of_no_reset hr, State.blockTick_busy hb]

/-- A step of a running operation is its tick. -/
theorem step_running (hb : s.ph ≠ .idle) (hr : s.pins.rst = false) (h : step s = .next t) :
    ∃ u, s.runTick = .next u ∧ t = u.endTick :=
  onNext_next (step_busy hb hr ▸ h)

theorem State.runTick_poll (hp : s.ph = .poll) : s.runTick = .next s.poll := by
  simp [State.runTick, hp]

theorem State.runTick_event (hb : s.ph ≠ .idle) (hp : s.ph ≠ .poll) (he : s.offered = .ok (some e)) :
    s.runTick = .next (s.handshake e) := by
  unfold State.runTick
  split
  · exact absurd ‹_› hb
  · exact absurd ‹_› hp
  · rw [he]

theorem State.countByte_last {p : Phase} (h : s.i + 1 = s.n) :
    s.countByte p = { s with i := s.i + 1, ph := p } := if_pos h

theorem State.countByte_more {p : Phase} (h : s.i + 1 ≠ s.n) : s.countByte p = { s with i := s.i + 1 } := if_neg h

/-! ### Acceptance, one form for the six operations -/

/-- The checks of a request after InvalidOp (R203). -/
def checkOf : Instr → State → Option Code
  | .window .. => checkWindow
  | .fill .. => checkFill
  | .rawbuf .. => checkRawbuf
  | .glyph .. => checkGlyph
  | .clear .. => checkClear
  | .waitready .. => checkWaitready

/-- What a request that passes its checks starts with. -/
def startOf : Instr → State → State
  | .window .. => startWindow
  | .fill .. => startFill
  | .rawbuf .. => startRawbuf
  | .glyph .. => startGlyph
  | .clear .. => State.startClear
  | .waitready .. => State.startPoll

theorem exec_idle {i : Instr} (hp : s.ph = .idle) (h : exec i s = .next u) :
    u = s.accept i.operands (checkOf i) (startOf i) := by
  have heq : exec i s = .next (s.accept i.operands (checkOf i) (startOf i)) := by
    cases i <;> exact State.offerRequest_idle hp _ _ _
  exact (Host.Outcome.next.inj (heq.symm.trans h)).symm

/-! ### Two blocks in step -/

/-- The two blocks run in the same world, in the same phase, with the same request in their latches; `b₁` and `b₂` are
what stood on their buses when the operation began. -/
structure Alike (b₁ b₂ : List Event) (s t : State) : Prop where
  cfg : s.cfg = t.cfg
  lat : s.lat = t.lat
  ph : s.ph = t.ph
  rspValid : s.rspValid = t.rspValid
  pixbuf : s.pixbuf = t.pixbuf
  glyphRom : s.glyphRom = t.glyphRom
  pins : s.pins = t.pins
  script : s.script = t.script
  tick : s.tick = t.tick
  bus : ∃ events, s.bus = b₁ ++ events ∧ t.bus = b₂ ++ events

/-- Two blocks agree on the registers that an operation in phase `p` reads before it writes them (R43), and in IDLE on
the response code. -/
def SameLive (p : Phase) (s t : State) : Prop :=
  match p with
  | .idle => s.status = t.status
  | .ptin | .ptl | .dtm => s.win = t.win ∧ s.n = t.n
  | .win => s.win = t.win ∧ s.n = t.n ∧ s.idx = t.idx
  | .pay => s.n = t.n ∧ s.i = t.i ∧ s.held = t.held
  | .c1data | .c2data => s.n = t.n ∧ s.i = t.i
  | .settle | .ptout | .c1cmd | .c1dly | .c2cmd | .c2dly => True
  | .poll => s.elapsed = t.elapsed ∧ s.sync0 = t.sync0 ∧ s.sync1 = t.sync1

/-- Two blocks with one operation at one position. -/
structure InStep (b₁ b₂ : List Event) (s t : State) : Prop extends Alike b₁ b₂ s t where
  live : SameLive s.ph s t

variable {b₁ b₂ : List Event}

theorem InStep.live_at (h : InStep b₁ b₂ s t) {p : Phase} (hp : s.ph = p) : SameLive p s t := hp ▸ h.live

/-! What the blocks put on the event port -/

theorem Alike.payloadByte (h : Alike b₁ b₂ s t) (hn : s.n = t.n) (hi : s.i = t.i) : s.payloadByte = t.payloadByte := by
  simp only [State.payloadByte, State.rawPayload, State.bufRead, State.glyphPayload, State.glyphRead, State.glyphByte,
    h.cfg, h.lat, h.pixbuf, h.glyphRom, h.tick, hn, hi]

theorem InStep.offered (h : InStep b₁ b₂ s t) : s.offered = t.offered := by
  unfold State.offered
  rw [← h.ph, ← h.cfg]
  cases hp : s.ph with
  | win =>
    obtain ⟨hwin, -, hidx⟩ := h.live_at hp
    simp only [hwin, hidx]
  | pay =>
    obtain ⟨hn, hi, hheld⟩ := h.live_at hp
    simp only [hheld, h.payloadByte hn hi]
  | _ => rfl

/-! The transitions -/

theorem Alike.goto (h : Alike b₁ b₂ s t) {p : Phase} (hlive : SameLive p s t) : InStep b₁ b₂ (s.goto p) (t.goto p) where
  toAlike := { h with ph := rfl }
  live := by cases p <;> exact hlive

theorem Alike.respond (h : Alike b₁ b₂ s t) (c : Code) : InStep b₁ b₂ (s.respond c) (t.respond c) where
  toAlike := { h with ph := rfl, rspValid := rfl }
  live := rfl

theorem InStep.taken (h : InStep b₁ b₂ s t) (e : Event) : InStep b₁ b₂ (s.taken e) (t.taken e) where
  toAlike := { h with
    bus := by
      obtain ⟨events, hs, ht⟩ := h.bus
      exact ⟨events ++ [e], by simp [hs], by simp [ht]⟩ }
  live := by
    have hlive := h.live
    rw [State.taken_ph]
    cases hp : s.ph <;> simp_all [SameLive]

/-- A byte is counted in both blocks: they stay in the phase, or both go on to one that reads no counter. -/
theorem Alike.countByte (h : Alike b₁ b₂ s t) (hn : s.n = t.n) (hi : s.i = t.i) {p : Phase}
    (hstay : SameLive s.ph { s with i := s.i + 1 } { t with i := t.i + 1 }) (hnext : ∀ a b, SameLive p a b) :
    InStep b₁ b₂ (s.countByte p) (t.countByte p) := by
  have hiff : s.i + 1 = s.n ↔ t.i + 1 = t.n := by rw [hn, hi]
  by_cases hlast : s.i + 1 = s.n
  · rw [State.countByte_last hlast, State.countByte_last (hiff.1 hlast)]
    exact ⟨{ h with ph := rfl }, hnext _ _⟩
  · rw [State.countByte_more hlast, State.countByte_more (hiff.not.1 hlast)]
    exact ⟨{ h with }, hstay⟩

theorem Alike.startClearData (h : Alike b₁ b₂ s t) {p : Phase} (hp : p = .c1data ∨ p = .c2data) :
    InStep b₁ b₂ (s.startClearData p) (t.startClearData p) where
  toAlike := { h with ph := rfl }
  live := by rcases hp with rfl | rfl <;> simp [SameLive, h.cfg]

theorem Alike.advanceWin (h : Alike b₁ b₂ s t) (hwin : s.win = t.win) (hn : s.n = t.n) (hidx : s.idx = t.idx) :
    InStep b₁ b₂ (if s.idx = 6 then s.goto .dtm else { s with ph := .win, idx := s.idx + 1 })
      (if t.idx = 6 then t.goto .dtm else { t with ph := .win, idx := t.idx + 1 }) := by
  rw [← hidx]
  split
  · exact h.goto ⟨hwin, hn⟩
  · exact ⟨{ h with ph := rfl }, hwin, hn, rfl⟩

theorem Alike.advanceDtm (h : Alike b₁ b₂ s t) (hn : s.n = t.n) (hheld : s.held = t.held) :
    InStep b₁ b₂ { s with i := 0, ph := if s.n = 0 then .settle else .pay }
      { t with i := 0, ph := if t.n = 0 then .settle else .pay } := by
  rw [← hn]
  split
  · exact ⟨{ h with ph := rfl }, trivial⟩
  · exact ⟨{ h with ph := rfl }, rfl, rfl, hheld⟩

/-- The same transition in both blocks; none of them reads a register that an earlier operation left. -/
theorem InStep.advance (h : InStep b₁ b₂ s t) (hheld : s.held = t.held) : InStep b₁ b₂ s.advance t.advance := by
  unfold State.advance
  cases hp : s.ph <;> rw [← h.ph, hp]
  case idle => exact h
  case poll => exact h
  case ptin =>
    obtain ⟨hwin, hn⟩ := h.live_at hp
    exact h.goto ⟨hwin, hn⟩
  case ptl =>
    obtain ⟨hwin, hn⟩ := h.live_at hp
    exact ⟨{ h with ph := rfl }, hwin, hn, rfl⟩
  case win =>
    obtain ⟨hwin, hn, hidx⟩ := h.live_at hp
    exact h.advanceWin hwin hn hidx
  case dtm =>
    obtain ⟨-, hn⟩ := h.live_at hp
    exact h.advanceDtm hn hheld
  case pay =>
    obtain ⟨hn, hi, -⟩ := h.live_at hp
    exact h.countByte hn hi (hp ▸ ⟨hn, congrArg (· + 1) hi, hheld⟩) (fun _ _ => trivial)
  case settle => exact h.goto trivial
  case ptout => exact h.respond .ok
  case c1cmd => exact h.startClearData (.inl rfl)
  case c1data =>
    obtain ⟨hn, hi⟩ := h.live_at hp
    exact h.countByte hn hi (hp ▸ ⟨hn, congrArg (· + 1) hi⟩) (fun _ _ => trivial)
  case c1dly => exact h.goto trivial
  case c2cmd => exact h.startClearData (.inr rfl)
  case c2data =>
    obtain ⟨hn, hi⟩ := h.live_at hp
    exact h.countByte hn hi (hp ▸ ⟨hn, congrArg (· + 1) hi⟩) (fun _ _ => trivial)
  case c2dly => exact h.respond .ok

theorem InStep.stall (h : InStep b₁ b₂ s t) (e : Event) : InStep b₁ b₂ (s.stall e) (t.stall e) := by
  unfold State.stall
  rw [← h.ph]
  split
  · rename_i hp
    obtain ⟨hn, hi, -⟩ := h.live_at hp
    exact ⟨{ h with }, hp ▸ ⟨hn, hi, rfl⟩⟩
  · exact h

theorem InStep.handshake (h : InStep b₁ b₂ s t) (e : Event) : InStep b₁ b₂ (s.handshake e) (t.handshake e) := by
  unfold State.handshake
  rw [← h.pins]
  split
  · exact (h.taken e).advance rfl
  · exact h.stall e

theorem InStep.poll (h : InStep b₁ b₂ s t) (hp : s.ph = .poll) : InStep b₁ b₂ s.poll t.poll := by
  obtain ⟨helapsed, hsync0, hsync1⟩ := h.live_at hp
  unfold State.poll
  rw [← hsync1, ← helapsed, ← h.lat]
  split
  · exact h.respond .ok
  · split
    · exact h.respond .deviceTimeout
    · exact ⟨{ h with lat := rfl }, hp ▸ ⟨rfl, hsync0, rfl⟩⟩

theorem Alike.nextEnv (h : Alike b₁ b₂ s t) : s.nextEnv = t.nextEnv := by
  simp only [State.nextEnv, h.script, h.tick]

theorem InStep.endTick (h : InStep b₁ b₂ s t) : InStep b₁ b₂ s.endTick t.endTick where
  toAlike := { h with
    pixbuf := by
      change State.pixbuf s.nextTick = State.pixbuf t.nextTick
      simp only [State.nextTick, h.nextEnv, h.pixbuf]
    pins := congrArg EnvTick.pins h.nextEnv
    script := congrArg List.tail h.script
    tick := congrArg (· + 1) h.tick }
  live := by
    have hlive := h.live
    rw [State.endTick_ph]
    cases hp : s.ph <;> simp_all [SameLive, h.pins]

/-- A busy tick of the first block is matched by one of the second. -/
theorem InStep.step (h : InStep b₁ b₂ s t) (hb : s.ph ≠ .idle) (hr : s.pins.rst = false)
    (hu : Machine.step s = .next u) : ∃ v, Machine.step t = .next v ∧ InStep b₁ b₂ u v := by
  obtain ⟨u, hrun, rfl⟩ := step_running hb hr hu
  rw [step_busy (h.ph ▸ hb) (h.pins ▸ hr)]
  rcases State.runTick_cases hrun with ⟨hp, -⟩ | ⟨hp, rfl⟩ | ⟨e, -, hp, he, rfl⟩
  · exact absurd hp hb
  · exact ⟨_, by rw [State.runTick_poll (h.ph ▸ hp)]; rfl, (h.poll hp).endTick⟩
  · exact ⟨_, by rw [State.runTick_event (h.ph ▸ hb) (h.ph ▸ hp) (h.offered ▸ he)]; rfl, (h.handshake e).endTick⟩

theorem InStep.busy {k : Nat} (h : InStep b₁ b₂ s t) (hb : Busy k s u) : ∃ v, Busy k t v ∧ InStep b₁ b₂ u v := by
  induction hb generalizing t with
  | zero => exact ⟨t, .zero t, h⟩
  | tick hp hr hstep _ ih =>
    obtain ⟨t', hstep', h'⟩ := h.step hp hr hstep
    obtain ⟨v, hv, hend⟩ := ih h'
    exact ⟨v, .tick (h.ph ▸ hp) (h.pins ▸ hr) hstep' hv, hend⟩

/-! The acceptance -/

theorem Alike.checkOf (h : Alike b₁ b₂ s t) (i : Instr) : checkOf i s = checkOf i t := by
  cases i with
  | window => rfl
  | fill => simp only [Machine.checkOf, checkFill, h.pins, h.cfg, h.lat]
  | rawbuf => simp only [Machine.checkOf, checkRawbuf, h.pins, h.cfg, h.lat]
  | glyph => simp only [Machine.checkOf, checkGlyph, h.pins, h.cfg, h.lat]
  | clear => simp only [Machine.checkOf, checkClear, h.pins]
  | waitready => rfl

theorem Alike.startFrame (h : Alike b₁ b₂ s t) (w : WindowRect) (n : Nat) :
    InStep b₁ b₂ ((s.setWindow w).startFrame n) ((t.setWindow w).startFrame n) :=
  ⟨{ h with ph := rfl }, rfl, rfl⟩

/-- A start writes what its first phase reads; only WAITREADY's polls read a register it does not write, SYNC. -/
theorem Alike.startOf {o : Operands} (h : Alike b₁ b₂ (s.latch o) (t.latch o)) (i : Instr)
    (hsync : i.opNumber = 6 → s.sync0 = t.sync0 ∧ s.sync1 = t.sync1) :
    InStep b₁ b₂ (startOf i (s.latch o)) (startOf i (t.latch o)) := by
  cases i with
  | window => exact ⟨{ h with ph := rfl, rspValid := rfl }, rfl⟩
  | fill => exact h.startFrame _ _
  | rawbuf => exact h.startFrame _ _
  | glyph => exact h.startFrame _ _
  | clear => exact ⟨{ h with ph := rfl }, trivial⟩
  | waitready =>
    obtain ⟨hsync0, hsync1⟩ := hsync rfl
    exact ⟨{ h with ph := rfl }, rfl, hsync0, hsync1⟩

/-- An accepted request puts two idle blocks in step, whatever stood in their other registers: both reject it with one
code, or both start it. -/
theorem InStep.exec {i : Instr} (hps : s.ph = .idle) (hpt : t.ph = .idle)
    (h : Alike b₁ b₂ (s.latch i.operands) (t.latch i.operands))
    (hsync : i.opNumber = 6 → s.sync0 = t.sync0 ∧ s.sync1 = t.sync1)
    (ha : Machine.exec i s = .next a) (hb : Machine.exec i t = .next b) : InStep b₁ b₂ a b := by
  obtain rfl := exec_idle hps ha
  obtain rfl := exec_idle hpt hb
  simp only [State.accept, ← h.checkOf i]
  cases checkOf i (s.latch i.operands) with
  | none => exact h.startOf i hsync
  | some c => exact h.respond c

/-- Settles O54: the accepted request puts the blocks in step, its tick's end and every busy tick keep them so, and what
two blocks in step show on their ports is the same. -/
theorem earlierOperationsDoNotMatter : Obligations.EarlierOperationsDoNotMatter := by
  intro i s₁ s₂ a₁ a₂ hp₁ hp₂ hcfg hpix hrom hpins hscript htick hsync ha₁ ha₂ k t₁ hbusy
  have halike : Alike s₁.bus s₂.bus (s₁.latch i.operands) (s₂.latch i.operands) :=
    ⟨hcfg, rfl, hp₁.trans hp₂.symm, rfl, hpix, hrom, hpins, hscript, htick, [], by simp, by simp⟩
  obtain ⟨t₂, hbusy₂, h⟩ := (InStep.exec hp₁ hp₂ halike hsync ha₁ ha₂).endTick.busy hbusy
  exact ⟨t₂, hbusy₂, h.ph.symm, h.rspValid.symm, fun hidle => (h.live_at hidle).symm, h.bus⟩

end Sys2Proof.Machine

/-! ## PROOFS. What one step does to the registers, to BUS and to the spaces; what a running block reads and offers -/

namespace Sys2Proof.Machine

variable {s t u : State} {e : Event} {p : Pins}

/-! ### The inputs a running block does not read -/

/-- The block with other levels at its input ports. -/
def State.withPins (s : State) (p : Pins) : State := { s with pins := p }

@[simp] theorem State.withPins_ph : (s.withPins p).ph = s.ph := rfl
@[simp] theorem State.withPins_pins : (s.withPins p).pins = p := rfl
@[simp] theorem State.withPins_offered : (s.withPins p).offered = s.offered := rfl

theorem State.countByte_withPins (q : Phase) : (s.withPins p).countByte q = (s.countByte q).withPins p := by
  by_cases h : s.i + 1 = s.n
  · rw [State.countByte_last h, State.countByte_last (s := s.withPins p) h]
    rfl
  · rw [State.countByte_more h, State.countByte_more (s := s.withPins p) h]
    rfl

theorem State.advance_withPins : (s.withPins p).advance = s.advance.withPins p := by
  unfold State.advance
  rw [State.withPins_ph]
  cases s.ph with
  | win =>
    dsimp only
    rw [apply_ite (State.withPins · p)]
    rfl
  | pay => exact State.countByte_withPins _
  | c1data => exact State.countByte_withPins _
  | c2data => exact State.countByte_withPins _
  | _ => rfl

theorem State.stall_withPins : (s.withPins p).stall e = (s.stall e).withPins p := by
  unfold State.stall
  rw [State.withPins_ph]
  split <;> rfl

theorem State.handshake_withPins (h : p.evReady = s.pins.evReady) :
    (s.withPins p).handshake e = (s.handshake e).withPins p := by
  unfold State.handshake
  rw [State.withPins_pins, h]
  split
  · exact State.advance_withPins (s := s.taken e)
  · exact State.stall_withPins

theorem State.poll_withPins : (s.withPins p).poll = s.poll.withPins p := by
  unfold State.poll
  rw [apply_ite (State.withPins · p), apply_ite (State.withPins · p)]
  rfl

/-- Of the inputs a tick without acceptance reads `ev_ready` alone. -/
theorem State.runTick_withPins (h : p.evReady = s.pins.evReady) :
    (s.withPins p).runTick = onNext (State.withPins · p) s.runTick := by
  unfold State.runTick
  rw [State.withPins_ph, State.withPins_offered]
  split
  · rfl
  · exact congrArg Host.Outcome.next State.poll_withPins
  · split
    · exact congrArg Host.Outcome.next (State.handshake_withPins h)
    · rfl
    · rfl

/-- Settles O9: a running block reads no input but `ev_ready` and, in its first flop, the line. -/
theorem busyBlockIgnoresOtherInputs : Obligations.BusyBlockIgnoresOtherInputs := by
  intro s v d q r hb hr
  let p : Pins := { s.pins with reqValid := v, reqDesc := d, pstate := q, rdyLine := r }
  calc step (s.withPins p)
      = onNext State.endTick (s.withPins p).runTick := step_busy hb hr
    _ = onNext State.endTick (onNext (State.withPins · p) s.runTick) := by rw [State.runTick_withPins (s := s) (p := p) rfl]
    _ = onNext (fun t => { t with sync0 := r }) (onNext State.endTick s.runTick) := by cases s.runTick <;> rfl
    _ = onNext (fun t => { t with sync0 := r }) (step s) := by rw [step_busy hb hr]

/-! ### The event on offer -/

theorem State.event_eq_some : s.event = some e ↔ s.offered = .ok (some e) := by
  unfold State.event
  split <;> simp [*]

theorem State.event_idle (hp : s.ph = .idle) : s.event = none := by
  simp [State.event, State.offered, hp]

theorem State.event_poll (hp : s.ph = .poll) : s.event = none := by
  simp [State.event, State.offered, hp]

@[simp] theorem State.evValid_iff : s.evValid = true ↔ s.ph ≠ .idle ∧ s.ph ≠ .poll := by
  simp [State.evValid]

theorem State.evValid_of_offered (h : s.offered = .ok (some e)) : s.evValid = true := by
  have he := State.event_eq_some.2 h
  refine State.evValid_iff.2 ⟨fun hp => ?_, fun hp => ?_⟩
  · simp [State.event_idle hp] at he
  · simp [State.event_poll hp] at he

/-- In PAY the event on offer is a data byte (R159). -/
theorem State.offered_pay (hp : s.ph = .pay) (h : s.offered = .ok (some e)) : ∃ b, e = .data b := by
  unfold State.offered at h
  rw [hp] at h
  simp only at h
  split at h
  · exact ⟨_, by simpa using h.symm⟩
  · cases hb : s.payloadByte <;> simp [hb, Except.map] at h
    exact ⟨_, h.symm⟩

theorem State.offered_held {b : Byte} (hp : s.ph = .pay) (hheld : s.held = some b) :
    s.offered = .ok (some (.data b)) := by
  simp [State.offered, hp, hheld]

theorem State.stall_pay {b : Byte} (hp : s.ph = .pay) : s.stall (.data b) = s.hold b := by
  simp [State.stall, hp]

theorem State.stall_other (hp : s.ph ≠ .pay) : s.stall e = s := by
  unfold State.stall
  split
  · exact absurd ‹_› hp
  · rfl

/-- Outside PAY an event depends on registers alone, which the tick's end leaves. -/
theorem State.offered_endTick (hp : s.ph ≠ .pay) : s.endTick.offered = s.offered := by
  unfold State.offered
  rw [State.endTick_ph]
  cases h : s.ph with
  | pay => exact absurd h hp
  | _ => rfl

/-- The event on offer does not change while it is not taken, whatever buffer the caller presents meanwhile. -/
theorem State.offered_stall_endTick (h : s.offered = .ok (some e)) : (s.stall e).endTick.offered = .ok (some e) := by
  by_cases hp : s.ph = .pay
  · obtain ⟨b, rfl⟩ := State.offered_pay hp h
    rw [State.stall_pay hp]
    exact State.offered_held hp rfl
  · rw [State.stall_other hp, State.offered_endTick hp, h]

/-- Settles O35: the tick is a stall, which writes at most the held byte, and the held byte is the one on offer. -/
theorem untakenEventIsHeld : Obligations.UntakenEventIsHeld := by
  intro s t e hr hready he hstep
  have hoff := State.event_eq_some.1 he
  obtain ⟨hb, hp⟩ := State.evValid_iff.1 (State.evValid_of_offered hoff)
  obtain rfl : (s.stall e).endTick = t := by
    rw [step_busy hb hr, State.runTick_event hb hp hoff, State.handshake, hready] at hstep
    simpa [onNext] using hstep
  have hnext := State.offered_stall_endTick hoff
  exact ⟨State.event_eq_some.2 hnext, State.evValid_of_offered hnext, _, congrArg State.endTick (State.stall_eq e)⟩

/-! ### What acceptance, a poll and a handshake can do -/

/-- An accepted request is answered at once, or it starts a frame, CLEAR or the polls. -/
theorem exec_idle_cases {i : Instr} (hp : s.ph = .idle) (h : exec i s = .next u) :
    (∃ c, u = (s.latch i.operands).respond c) ∨
    (∃ w, u = ((s.latch i.operands).setWindow w).respond .ok) ∨
    (∃ w n, u = ((s.latch i.operands).setWindow w).startFrame n) ∨
    u = (s.latch i.operands).startClear ∨ u = (s.latch i.operands).startPoll := by
  obtain rfl := exec_idle hp h
  rcases State.accept_cases (s := s) i.operands (checkOf i) (startOf i) with ⟨c, -, heq⟩ | ⟨-, heq⟩ <;> rw [heq]
  · exact .inl ⟨c, rfl⟩
  · right
    cases i with
    | window => exact .inl ⟨_, rfl⟩
    | fill => exact .inr (.inl ⟨_, _, rfl⟩)
    | rawbuf => exact .inr (.inl ⟨_, _, rfl⟩)
    | glyph => exact .inr (.inl ⟨_, _, rfl⟩)
    | clear => exact .inr (.inr (.inl rfl))
    | waitready => exact .inr (.inr (.inr rfl))

/-- A poll writes the response and ELAPSED. -/
theorem State.poll_frame (s : State) : s.poll = { s with
    ph := s.poll.ph, status := s.poll.status, rspValid := s.poll.rspValid, elapsed := s.poll.elapsed } := by
  rcases s.poll_cases with ⟨-, heq⟩ | ⟨-, -, heq⟩ | ⟨-, -, heq⟩ <;> rw [heq] <;> rfl

/-- A handshake writes the held byte and BUS, and what the transition writes. -/
theorem State.handshake_frame (s : State) (e : Event) : s.handshake e = { s with
    ph := (s.handshake e).ph, idx := (s.handshake e).idx, n := (s.handshake e).n, i := (s.handshake e).i
    status := (s.handshake e).status, rspValid := (s.handshake e).rspValid
    held := (s.handshake e).held, bus := (s.handshake e).bus } := by
  rcases State.handshake_cases (s := s) e with ⟨-, heq⟩ | ⟨-, heq⟩ <;> rw [heq]
  · rw [State.advance_frame]
    rfl
  · rw [State.stall_eq]

/-! ### BUS -/

/-- The events the collaborator takes in this tick: the one on offer, if `ev_ready = 1` (R38). -/
def State.emitted (s : State) : List Event := if s.pins.evReady then s.event.toList else []

theorem State.emitted_of_no_event (h : s.event = none) : s.emitted = [] := by
  simp [State.emitted, h]

theorem State.emitted_of_not_ready (h : s.pins.evReady = false) : s.emitted = [] := by
  simp [State.emitted, h]

theorem State.emitted_of_ready (h : s.pins.evReady = true) (he : s.event = some e) : s.emitted = [e] := by
  simp [State.emitted, h, he]

theorem State.resetBus_bus (s : State) : s.resetBus.bus = s.bus ++ s.emitted := by
  rcases s.resetBus_cases with ⟨e, he, hready, heq⟩ | ⟨hno, heq⟩ <;> rw [heq]
  · rw [State.emitted_of_ready hready (State.event_eq_some.2 he)]
    rfl
  · cases he : s.event with
    | none => simp [State.emitted_of_no_event he]
    | some e => simp [State.emitted_of_not_ready (hno e (State.event_eq_some.1 he))]

theorem State.handshake_bus (he : s.offered = .ok (some e)) : (s.handshake e).bus = s.bus ++ s.emitted := by
  rcases State.handshake_cases (s := s) e with ⟨hready, heq⟩ | ⟨hready, heq⟩ <;> rw [heq]
  · rw [State.advance_bus, State.emitted_of_ready hready (State.event_eq_some.2 he)]
    rfl
  · rw [State.stall_eq, State.emitted_of_not_ready hready, List.append_nil]

theorem State.poll_bus (s : State) : s.poll.bus = s.bus := by rw [State.poll_frame]

theorem State.runTick_bus (h : s.runTick = .next u) : u.bus = s.bus ++ s.emitted := by
  rcases State.runTick_cases h with ⟨hp, rfl⟩ | ⟨hp, rfl⟩ | ⟨e, -, -, he, rfl⟩
  · simp [State.emitted_of_no_event (State.event_idle hp)]
  · simp [State.emitted_of_no_event (State.event_poll hp), State.poll_bus]
  · exact State.handshake_bus he

theorem exec_idle_bus {i : Instr} (hp : s.ph = .idle) (h : exec i s = .next u) : u.bus = s.bus := by
  rcases exec_idle_cases hp h with ⟨_, rfl⟩ | ⟨_, rfl⟩ | ⟨_, _, rfl⟩ | rfl | rfl <;> rfl

/-- In every step BUS grows by the events taken in it. -/
theorem step_bus (h : step s = .next t) : t.bus = s.bus ++ s.emitted := by
  have hidle (hp : s.ph = .idle) : s.emitted = [] := State.emitted_of_no_event (State.event_idle hp)
  rcases step_cases h with ⟨-, rfl⟩ | ⟨-, -, u, hu, rfl⟩ | ⟨-, hp, -, rfl⟩ |
    ⟨-, hp, -, ⟨i, u, -, hu, rfl⟩ | ⟨r, -, rfl⟩⟩
  · exact s.resetBus_bus
  · exact (State.endTick_bus u).trans (State.runTick_bus hu)
  · simp [hidle hp]
  · simp [hidle hp, exec_idle_bus hp hu]
  · simp [hidle hp]

/-- Settles O36: BUS grows by the events taken in the tick, which are the one on offer or none. -/
theorem busGrowsByTheTakenEvent : Obligations.BusGrowsByTheTakenEvent := by
  intro s t h
  rw [step_bus h]
  refine ⟨fun e he hready => ?_, fun hno => ?_⟩
  · rw [State.emitted_of_ready hready he]
  · rw [hno.elim State.emitted_of_no_event State.emitted_of_not_ready, List.append_nil]

/-! ### The configuration and the read spaces -/

/-- What the block itself never writes. -/
structure WorldKept (s u : State) : Prop where
  cfg : u.cfg = s.cfg
  glyphRom : u.glyphRom = s.glyphRom
  pixbuf : u.pixbuf = s.pixbuf
  script : u.script = s.script
  tick : u.tick = s.tick

theorem WorldKept.resetBus (s : State) : WorldKept s s.resetBus := by
  rcases s.resetBus_cases with ⟨e, -, -, heq⟩ | ⟨-, heq⟩ <;> rw [heq] <;> exact ⟨rfl, rfl, rfl, rfl, rfl⟩

theorem WorldKept.poll (s : State) : WorldKept s s.poll := by
  rw [State.poll_frame]
  exact ⟨rfl, rfl, rfl, rfl, rfl⟩

theorem WorldKept.handshake (s : State) (e : Event) : WorldKept s (s.handshake e) := by
  rw [State.handshake_frame]
  exact ⟨rfl, rfl, rfl, rfl, rfl⟩

theorem WorldKept.runTick (h : s.runTick = .next u) : WorldKept s u := by
  rcases State.runTick_cases h with ⟨-, rfl⟩ | ⟨-, rfl⟩ | ⟨e, -, -, -, rfl⟩
  · exact ⟨rfl, rfl, rfl, rfl, rfl⟩
  · exact .poll s
  · exact .handshake s e

theorem WorldKept.exec {i : Instr} (hp : s.ph = .idle) (h : Machine.exec i s = .next u) : WorldKept s u := by
  rcases exec_idle_cases hp h with ⟨_, rfl⟩ | ⟨_, rfl⟩ | ⟨_, _, rfl⟩ | rfl | rfl <;> exact ⟨rfl, rfl, rfl, rfl, rfl⟩

/-- Every step ends as every tick does, and before its end the block has left the world alone. -/
theorem step_world (h : step s = .next t) : ∃ u, WorldKept s u ∧ t = u.nextTick := by
  rcases step_cases h with ⟨-, rfl⟩ | ⟨-, -, u, hu, rfl⟩ | ⟨-, -, -, rfl⟩ |
    ⟨-, hp, -, ⟨i, u, -, hu, rfl⟩ | ⟨r, -, rfl⟩⟩
  · exact ⟨s.resetBus.resetRegs, { WorldKept.resetBus s with }, rfl⟩
  · exact ⟨u.shiftSync, { WorldKept.runTick hu with }, rfl⟩
  · exact ⟨s.shiftSync, ⟨rfl, rfl, rfl, rfl, rfl⟩, rfl⟩
  · exact ⟨u.shiftSync, { WorldKept.exec hp hu with }, rfl⟩
  · exact ⟨((s.latch _).respond .invalidOp).shiftSync, ⟨rfl, rfl, rfl, rfl, rfl⟩, rfl⟩

theorem State.nextEnv_buffer (s : State) : s.nextEnv.buffer = s.bufferAt 0 := by
  unfold State.nextEnv State.bufferAt
  cases s.script <;> rfl

theorem WorldKept.bufferAt (h : WorldKept s u) : u.bufferAt 0 = s.bufferAt 0 := by
  simp only [State.bufferAt, h.script, h.tick]

theorem State.nextTick_pixbuf_kept (h : s.bufferAt 0 = none) : s.nextTick.pixbuf = s.pixbuf := by
  simp [State.nextTick, State.nextEnv_buffer, h]

theorem State.nextTick_pixbuf_presented {bytes : List Byte} (h : s.bufferAt 0 = some bytes) :
    s.nextTick.pixbuf = Memory.ofBytes bytes := by
  simp [State.nextTick, State.nextEnv_buffer, h]

/-- Settles O47: the spaces change at the tick's end alone, and there PIXBUF alone, as the caller presents it. -/
theorem configurationAndSpacesAreOnlyRead : Obligations.ConfigurationAndSpacesAreOnlyRead := by
  intro s t h
  have hbus := step_bus h
  obtain ⟨u, hu, rfl⟩ := step_world h
  refine ⟨hu.cfg, hu.glyphRom, ⟨_, hbus.symm⟩, congrArg (· + 1) hu.tick, fun hkeep a => ?_, fun bytes hnew a => ?_⟩
  · rw [State.nextTick_pixbuf_kept (hu.bufferAt.trans hkeep), hu.pixbuf]
  · rw [State.nextTick_pixbuf_presented (hu.bufferAt.trans hnew), Memory.ofBytes_read]

end Sys2Proof.Machine

/-! ## PROOFS. The sequencer's position, the response, what a running block reads and offers -/

namespace Sys2Proof.Machine

variable {s t u : State} {e : Event}

/-! ### What a taken event does to the position -/

theorem State.countByte_idx (p : Phase) : (s.countByte p).idx = s.idx := by
  rcases State.countByte_cases (s := s) p with ⟨-, heq⟩ | ⟨-, heq⟩ <;> rw [heq]

theorem State.countByte_n (p : Phase) : (s.countByte p).n = s.n := by
  rcases State.countByte_cases (s := s) p with ⟨-, heq⟩ | ⟨-, heq⟩ <;> rw [heq]

/-- IDX is written in framed phases only (R27). -/
theorem State.advance_idx (h : s.ph.framed = false) : s.advance.idx = s.idx := by
  unfold State.advance
  cases hp : s.ph <;> simp [hp, Phase.framed, State.countByte_idx] at h ⊢

/-- A framed operation writes N at its acceptance only (R155). -/
theorem State.advance_n (h : s.ph.framed = true) : s.advance.n = s.n := by
  unfold State.advance
  cases hp : s.ph <;> simp [hp, Phase.framed, State.countByte_n] at h ⊢
  split <;> rfl

/-- A counting phase goes on to its successor, or counts inside itself. -/
theorem State.countByte_moves {p : Phase} (h : s.ph.rank < p.rank) :
    (s.ph.rank < (s.countByte p).ph.rank ∧ (s.countByte p).status = s.status) ∨
    (s.i + 1 ≠ s.n ∧ s.countByte p = { s with i := s.i + 1 }) := by
  rcases State.countByte_cases (s := s) p with ⟨-, heq⟩ | hmore
  · rw [heq]
    exact .inl ⟨h, rfl⟩
  · exact .inr hmore

/-- R28: the operation ends, goes on to a later phase, or counts inside its phase. -/
theorem State.advance_cases (hb : s.ph ≠ .idle) (hpoll : s.ph ≠ .poll) :
    s.advance = s.respond .ok ∨
    (s.ph.rank < s.advance.ph.rank ∧ s.advance.status = s.status) ∨
    (s.ph = .win ∧ s.idx ≠ 6 ∧ s.advance = { s with idx := s.idx + 1 }) ∨
    ((s.ph = .pay ∨ s.ph = .c1data ∨ s.ph = .c2data) ∧ s.i + 1 ≠ s.n ∧ s.advance = { s with i := s.i + 1 }) := by
  have hcount (p : Phase) (hq : s.ph.rank < p.rank) := State.countByte_moves hq
  unfold State.advance
  cases hp : s.ph <;> rw [hp] at hcount
  case idle => exact absurd hp hb
  case poll => exact absurd hp hpoll
  case win =>
    dsimp only
    by_cases h : s.idx = 6
    · rw [if_pos h]
      exact .inr (.inl ⟨by simp [Phase.rank], rfl⟩)
    · rw [if_neg h]
      exact .inr (.inr (.inl ⟨rfl, h, rfl⟩))
  case dtm =>
    dsimp only
    split <;> exact .inr (.inl ⟨by simp [Phase.rank], rfl⟩)
  case pay => exact .inr ((hcount .settle (by decide)).imp_right fun hmore => .inr ⟨by simp, hmore⟩)
  case c1data => exact .inr ((hcount .c1dly (by decide)).imp_right fun hmore => .inr ⟨by simp, hmore⟩)
  case c2data => exact .inr ((hcount .c2dly (by decide)).imp_right fun hmore => .inr ⟨by simp, hmore⟩)
  case ptout => exact .inl rfl
  case c2dly => exact .inl rfl
  all_goals exact .inr (.inl ⟨by simp [Phase.rank], rfl⟩)

/-! ### The sequencer never moves back -/

/-- What R28 asks of one tick of an operation that goes on. -/
def Onward (s t : State) : Prop :=
  s.ph.rank ≤ t.ph.rank ∧
  (t.ph = s.ph →
    (t.idx = s.idx ∨ t.idx.toNat = s.idx.toNat + 1) ∧ (t.i = s.i ∨ t.i.toNat = s.i.toNat + 1)) ∧
  (t.ph ≠ s.ph → s.ph.rank < t.ph.rank)

theorem Onward.of_stays (hp : t.ph = s.ph) (hidx : t.idx = s.idx ∨ t.idx.toNat = s.idx.toNat + 1)
    (hi : t.i = s.i ∨ t.i.toNat = s.i.toNat + 1) : Onward s t :=
  ⟨hp ▸ le_rfl, fun _ => ⟨hidx, hi⟩, fun h => absurd hp h⟩

theorem Onward.of_lt (h : s.ph.rank < t.ph.rank) : Onward s t :=
  ⟨h.le, fun hp => absurd (hp ▸ h) (lt_irrefl _), fun _ => h⟩

theorem BlockInv.index_lt (h : BlockInv s) (hp : s.ph = .pay ∨ s.ph = .c1data ∨ s.ph = .c2data) :
    s.i.toNat < s.n.toNat := by
  rcases hp with hp | hp
  · exact h.pay_index hp
  · obtain ⟨-, hi⟩ := h.clear_index hp
    exact hi

/-- A counter that is below a word does not wrap. -/
theorem toNat_add_one_of_lt {i n : Word} (h : i.toNat < n.toNat) : (i + 1).toNat = i.toNat + 1 := by bv_omega

theorem BlockInv.onward_advance (h : BlockInv s) (hb : s.ph ≠ .idle) (hpoll : s.ph ≠ .poll)
    (hgo : s.advance.ph ≠ .idle) : Onward s s.advance := by
  rcases State.advance_cases hb hpoll with heq | ⟨hlt, -⟩ | ⟨hp, -, heq⟩ | ⟨hp, -, heq⟩
  · exact absurd (heq ▸ rfl) hgo
  · exact .of_lt hlt
  · have hidx := h.win_idx hp
    rw [heq]
    exact .of_stays rfl (.inr (by simp only []; bv_omega)) (.inl rfl)
  · rw [heq]
    exact .of_stays rfl (.inl rfl) (.inr (toNat_add_one_of_lt (h.index_lt hp)))

theorem BlockInv.onward_handshake (h : BlockInv s) (hb : s.ph ≠ .idle) (hpoll : s.ph ≠ .poll)
    (hgo : (s.handshake e).ph ≠ .idle) : Onward s (s.handshake e) := by
  rcases State.handshake_cases (s := s) e with ⟨-, heq⟩ | ⟨-, heq⟩ <;> rw [heq] at hgo ⊢
  · exact (h.taken e).onward_advance hb hpoll hgo
  · rw [State.stall_eq]
    exact .of_stays rfl (.inl rfl) (.inl rfl)

theorem State.onward_poll (hgo : s.poll.ph ≠ .idle) : Onward s s.poll := by
  rcases s.poll_cases with ⟨-, heq⟩ | ⟨-, -, heq⟩ | ⟨-, -, heq⟩ <;> rw [heq] at hgo ⊢
  · exact absurd rfl hgo
  · exact absurd rfl hgo
  · exact .of_stays rfl (.inl rfl) (.inl rfl)

/-- Settles O45: a poll counts, a stall stays, and a taken event moves the sequencer on. -/
theorem sequencerNeverMovesBack : Obligations.SequencerNeverMovesBack := by
  intro s t h hr hstep hb hgo
  obtain ⟨u, hrun, rfl⟩ := step_running hb hr hstep
  change Onward s u
  rcases State.runTick_cases hrun with ⟨hp, -⟩ | ⟨-, rfl⟩ | ⟨e, -, hpoll, -, rfl⟩
  · exact absurd hp hb
  · exact State.onward_poll hgo
  · exact h.onward_handshake hb hpoll hgo

/-! ### The frame of a running tick -/

theorem State.handshake_idx (h : s.ph.framed = false) : (s.handshake e).idx = s.idx := by
  rcases State.handshake_cases (s := s) e with ⟨-, heq⟩ | ⟨-, heq⟩ <;> rw [heq]
  · exact State.advance_idx (s := s.taken e) h
  · rw [State.stall_eq]

theorem State.handshake_n (h : s.ph.framed = true) : (s.handshake e).n = s.n := by
  rcases State.handshake_cases (s := s) e with ⟨-, heq⟩ | ⟨-, heq⟩ <;> rw [heq]
  · exact State.advance_n (s := s.taken e) h
  · rw [State.stall_eq]

/-- Settles O46: a poll writes the response and ELAPSED, a handshake the sequencer's position, the response and BUS. -/
theorem runningTickFrame : Obligations.RunningTickFrame := by
  intro s t hb hr hstep
  obtain ⟨u, hrun, rfl⟩ := step_running hb hr hstep
  rcases State.runTick_cases hrun with ⟨hp, -⟩ | ⟨hp, rfl⟩ | ⟨e, -, hpoll, -, rfl⟩
  · exact absurd hp hb
  · rw [State.poll_frame]
    exact ⟨rfl, rfl, fun _ => ⟨rfl, rfl, rfl, rfl⟩, fun hpoll => absurd hp hpoll, fun _ => rfl, fun _ => rfl⟩
  · rw [State.handshake_frame]
    exact ⟨rfl, rfl, fun hp => absurd hp hpoll, fun _ => rfl, State.handshake_idx, State.handshake_n⟩

/-! ### The response -/

/-- A tick that has answered, or one in which the operation goes on. -/
def AnsweredOrRunning (s u : State) : Prop :=
  (u.ph = .idle ∧ u.rspValid = true) ∨ (u.ph ≠ .idle ∧ u.status = s.status)

theorem AnsweredOrRunning.endTick (h : AnsweredOrRunning s u) : AnsweredOrRunning s u.endTick := h

theorem AnsweredOrRunning.advance (hb : s.ph ≠ .idle) (hpoll : s.ph ≠ .poll) : AnsweredOrRunning s s.advance := by
  rcases State.advance_cases hb hpoll with heq | ⟨hlt, hstatus⟩ | ⟨-, -, heq⟩ | ⟨-, -, heq⟩
  · exact .inl (heq ▸ ⟨rfl, rfl⟩)
  · exact .inr ⟨fun hp => by simp [hp, Phase.rank] at hlt, hstatus⟩
  · exact .inr (heq ▸ ⟨hb, rfl⟩)
  · exact .inr (heq ▸ ⟨hb, rfl⟩)

theorem AnsweredOrRunning.runTick (hb : s.ph ≠ .idle) (h : s.runTick = .next u) : AnsweredOrRunning s u := by
  rcases State.runTick_cases h with ⟨hp, -⟩ | ⟨-, rfl⟩ | ⟨e, -, hpoll, -, rfl⟩
  · exact absurd hp hb
  · rcases s.poll_cases with ⟨-, heq⟩ | ⟨-, -, heq⟩ | ⟨-, -, heq⟩ <;> rw [heq]
    · exact .inl ⟨rfl, rfl⟩
    · exact .inl ⟨rfl, rfl⟩
    · exact .inr ⟨hb, rfl⟩
  · rcases State.handshake_cases (s := s) e with ⟨-, heq⟩ | ⟨-, heq⟩ <;> rw [heq]
    · exact AnsweredOrRunning.advance (s := s.taken e) hb hpoll
    · rw [State.stall_eq]
      exact .inr ⟨hb, rfl⟩

theorem AnsweredOrRunning.exec {i : Instr} (hp : s.ph = .idle) (h : Machine.exec i s = .next u) :
    AnsweredOrRunning s u := by
  rcases exec_idle_cases hp h with ⟨_, rfl⟩ | ⟨_, rfl⟩ | ⟨_, _, rfl⟩ | rfl | rfl
  · exact .inl ⟨rfl, rfl⟩
  · exact .inl ⟨rfl, rfl⟩
  · exact .inr ⟨nofun, rfl⟩
  · exact .inr ⟨nofun, rfl⟩
  · exact .inr ⟨nofun, rfl⟩

/-- In a tick of a request, from its acceptance to its end, the block answers or the operation goes on. -/
theorem step_answeredOrRunning (hr : s.pins.rst = false) (hq : s.ph ≠ .idle ∨ s.pins.reqValid = true)
    (h : step s = .next t) : AnsweredOrRunning s t := by
  rcases step_cases h with ⟨hr', -⟩ | ⟨-, hb, u, hu, rfl⟩ | ⟨-, hp, hv, -⟩ |
    ⟨-, hp, -, ⟨i, u, -, hu, rfl⟩ | ⟨r, -, rfl⟩⟩
  · simp [hr] at hr'
  · exact (AnsweredOrRunning.runTick hb hu).endTick
  · simp [hp, hv] at hq
  · exact (AnsweredOrRunning.exec hp hu).endTick
  · exact .inl ⟨rfl, rfl⟩

/-- Settles O44: without a request an idle block only ends the tick; in a request's ticks it answers or goes on, and
while it goes on the invariant keeps RSP_VALID at 0. -/
theorem responseStaysUntilTheNextRequest : Obligations.ResponseStaysUntilTheNextRequest := by
  intro s t h hr hstep
  have hidle (hp : s.ph = .idle) (hv : s.pins.reqValid = false) : t = s.endTick := by
    obtain ⟨-, hend, -⟩ := stepRunsTheRequest s hr
    simpa using hstep.symm.trans (hend hp hv)
  refine ⟨fun hp hv => ?_, fun hb => ⟨?_, ?_⟩, fun hp hq => ?_⟩
  · rw [hidle hp hv]
    exact ⟨rfl, rfl⟩
  · exact (stepKeepsTheInvariant s t h hstep).busy_no_response hb
  · have hq : s.ph ≠ .idle ∨ s.pins.reqValid = true := by
      by_contra! hno
      obtain ⟨hp, hv⟩ := hno
      rw [hidle hp (by simpa using hv)] at hb
      exact hb hp
    exact (step_answeredOrRunning hr hq hstep).elim (fun hans => absurd hans.1 hb) And.right
  · exact (step_answeredOrRunning hr hq hstep).elim And.right (fun hrun => absurd hp hrun.1)

/-! ### What a running block reads and offers -/

theorem glyphIndex_lt_of_glyphOk {c : Config} {code : Byte} (h : glyphOk c code = true) :
    glyphIndex code < c.glyphN ∧ glyphIndex code + 32 = code.toNat := by
  obtain ⟨hlo, hhi⟩ := (glyphOk_iff c code).1 h
  unfold glyphIndex
  simp only [Config.glyphBase]
  omega

theorem BlockInv.framed_pay (h : BlockInv s) (hp : s.ph = .pay) : framedInv s := h.framed (hp ▸ rfl)

/-- RAWBUF in PAY: the payload has `floor(W/8) * H` bytes. -/
theorem BlockInv.rawbuf_length (h : BlockInv s) (hp : s.ph = .pay) (hop : s.lat.op = 3) :
    s.n.toNat = rawLength s.lat.w s.lat.h := by
  rcases h.framed_pay hp with ⟨hop', -⟩ | ⟨-, -, -, hn⟩ | ⟨hop', -⟩
  · simp [hop] at hop'
  · exact hn
  · simp [hop] at hop'

/-- GLYPH in PAY: the code is in the table. -/
theorem BlockInv.glyph_code (h : BlockInv s) (hp : s.ph = .pay) (hop : s.lat.op = 4) :
    glyphOk s.cfg s.lat.arg = true := by
  rcases h.framed_pay hp with ⟨hop', -⟩ | ⟨hop', -⟩ | ⟨-, hcode, -⟩
  · simp [hop] at hop'
  · simp [hop] at hop'
  · exact hcode

theorem State.bufIdx_eq_some {j : Nat} : s.bufIdx = some j ↔
    (s.ph = .pay ∧ s.lat.op = 3 ∧ s.lat.present = true) ∧ s.i.toNat = j := by
  simp [State.bufIdx]

theorem State.glyphIdx_eq_some {g k : Nat} : s.glyphIdx = some (g, k) ↔
    (s.ph = .pay ∧ s.lat.op = 4 ∧ 2 ≤ s.i.toNat ∧ s.i.toNat ≤ 14) ∧ glyphIndex s.lat.arg = g ∧ s.i.toNat - 2 = k := by
  simp [State.glyphIdx]

/-- Settles O38: I is below N, which is the length of RAWBUF's payload, and a GLYPH that runs has a checked code. -/
theorem readsStayInRange : Obligations.ReadsStayInRange := by
  intro s h
  refine ⟨fun j hj => ?_, fun g k hgk => ?_⟩
  · obtain ⟨⟨hp, hop, hpresent⟩, rfl⟩ := State.bufIdx_eq_some.1 hj
    exact ⟨hp, hop, hpresent, (h.pay_index hp).trans_eq (h.rawbuf_length hp hop)⟩
  · obtain ⟨⟨hp, hop, hlo, hhi⟩, rfl, rfl⟩ := State.glyphIdx_eq_some.1 hgk
    obtain ⟨hg, harg⟩ := glyphIndex_lt_of_glyphOk (h.glyph_code hp hop)
    exact ⟨hp, hop, hg, harg, by omega⟩

/-- GLYPH has a payload byte at each of its seventeen places (R150). -/
theorem State.glyphPayload_ok (hcode : glyphOk s.cfg s.lat.arg = true) {j : Nat} (hj : j < glyphLength) :
    ∃ b, s.glyphPayload j = .ok b := by
  obtain ⟨hg, -⟩ := glyphIndex_lt_of_glyphOk hcode
  unfold State.glyphPayload
  split
  · exact ⟨_, rfl⟩
  · split
    · have hk : j - Config.glyphMargin < Config.glyphRows := by omega
      exact ⟨_, by rw [State.glyphRead, if_pos ⟨hg, hk⟩]; rfl⟩
    · exact ⟨_, if_pos hj⟩

theorem BlockInv.payloadByte_ok (h : BlockInv s) (hp : s.ph = .pay) : ∃ b, s.payloadByte = .ok b := by
  have hi := h.pay_index hp
  unfold State.payloadByte
  rw [if_pos hi]
  rcases h.framed_pay hp with ⟨hop, -⟩ | ⟨hop, -⟩ | ⟨hop, hcode, -, -, hn⟩ <;> rw [hop]
  · exact ⟨_, rfl⟩
  · exact ⟨_, rfl⟩
  · exact State.glyphPayload_ok hcode (hn ▸ hi)

theorem windowByte_ok (c : Config) (w : WindowRect) {k : Nat} (hk : k ≤ 6) : ∃ b, windowByte c w k = some b :=
  ⟨_, List.getElem?_eq_getElem (show k < (windowBytes c w).length from Nat.lt_succ_of_le hk)⟩

/-- In every phase but IDLE and POLL the sequencer has an event (R38). -/
theorem BlockInv.offered_ok (h : BlockInv s) (hb : s.ph ≠ .idle) (hpoll : s.ph ≠ .poll) :
    ∃ e, s.offered = .ok (some e) := by
  unfold State.offered
  cases hp : s.ph with
  | idle => exact absurd hp hb
  | poll => exact absurd hp hpoll
  | win =>
    obtain ⟨b, hbyte⟩ := windowByte_ok s.cfg s.win (h.win_idx hp)
    exact ⟨.data b, by simp only [hbyte]⟩
  | pay =>
    obtain ⟨b, hbyte⟩ := h.payloadByte_ok hp
    cases hheld : s.held with
    | none => exact ⟨.data b, by simp only [hbyte, Except.map]⟩
    | some held => exact ⟨.data held, rfl⟩
  | _ => exact ⟨_, rfl⟩

/-- Settles O37: the phase decides what is on offer, and the invariant keeps every phase from a missing event. -/
theorem eventIsOfferedExactlyWhenBusy : Obligations.EventIsOfferedExactlyWhenBusy := by
  intro s h
  refine ⟨⟨fun hv => ?_, fun ⟨e, he⟩ => State.evValid_of_offered (State.event_eq_some.1 he)⟩, State.evValid_iff⟩
  obtain ⟨hb, hpoll⟩ := State.evValid_iff.1 hv
  obtain ⟨e, he⟩ := h.offered_ok hb hpoll
  exact ⟨e, State.event_eq_some.2 he⟩

/-! ### Reset -/

/-- Settles O50: the values are those `State.reset` is written with. -/
theorem resetValues : Obligations.ResetValues :=
  ⟨rfl, rfl, rfl, rfl, rfl, rfl, rfl, rfl, rfl⟩

end Sys2Proof.Machine

/-! ## PROOFS. A payload byte is read once; a draw under a fair collaborator -/

namespace Sys2Proof.Machine

variable {s t u : State} {e : Event} {k : Nat}

/-! ### The tick of a draw -/

/-- While an event is on offer a step is its handshake. -/
theorem step_event (hr : s.pins.rst = false) (he : s.offered = .ok (some e)) :
    step s = .next (s.handshake e).endTick := by
  obtain ⟨hb, hp⟩ := State.evValid_iff.1 (State.evValid_of_offered he)
  rw [step_busy hb hr, State.runTick_event hb hp he]
  rfl

theorem State.handshake_ready (h : s.pins.evReady = true) : s.handshake e = (s.taken e).advance := if_pos h

theorem State.handshake_not_ready (h : s.pins.evReady = false) : s.handshake e = s.stall e := by
  simp [State.handshake, h]

/-! ### Each payload byte is read once -/

theorem State.countByte_i (p : Phase) : (s.countByte p).i = s.i + 1 := by
  rcases State.countByte_cases (s := s) p with ⟨-, heq⟩ | ⟨-, heq⟩ <;> rw [heq]

/-- No byte is held after a tick of PAY only if the byte on offer was taken and counted (R159). -/
theorem BlockInv.step_pay_not_held (h : BlockInv s) (hr : s.pins.rst = false) (hp : s.ph = .pay) (hstep : step s = .next t)
    (hheld : t.held = none) : s.pins.evReady = true ∧ t.i.toNat = s.i.toNat + 1 := by
  obtain ⟨e, he⟩ := h.offered_ok (by simp [hp]) (by simp [hp])
  obtain rfl : (s.handshake e).endTick = t := by simpa [step_event hr he] using hstep
  cases hready : s.pins.evReady with
  | false =>
    obtain ⟨b, rfl⟩ := State.offered_pay hp he
    simp [State.handshake_not_ready hready, State.stall_pay hp] at hheld
  | true =>
    have hcount : s.handshake e = (s.taken e).countByte .settle := by
      rw [State.handshake_ready hready, State.advance, State.taken_ph, hp]
    refine ⟨rfl, ?_⟩
    rw [State.endTick_i, hcount, State.countByte_i]
    exact toNat_add_one_of_lt (h.pay_index hp)

theorem State.bufReads_eq_some {j : Nat} : s.bufReads = some j ↔ s.held = none ∧ s.bufIdx = some j := by
  simp [State.bufReads]

theorem State.glyphReads_eq_some {g : Nat} : s.glyphReads = some (g, k) ↔ s.held = none ∧ s.glyphIdx = some (g, k) := by
  simp [State.glyphReads]

/-- Settles O39: a read is made only of a byte that is not held, and in PAY both read ports follow I. -/
theorem eachByteIsReadOnce : Obligations.EachByteIsReadOnce := by
  intro s t h hr hp hstep
  refine ⟨fun j hj => ?_, fun g k hgk => ?_⟩
  · obtain ⟨hheld, hidx⟩ := State.bufReads_eq_some.1 hj
    obtain ⟨-, rfl⟩ := State.bufIdx_eq_some.1 hidx
    exact h.step_pay_not_held hr hp hstep hheld
  · obtain ⟨hheld, hidx⟩ := State.glyphReads_eq_some.1 hgk
    obtain ⟨⟨-, -, hlo, -⟩, -, rfl⟩ := State.glyphIdx_eq_some.1 hidx
    obtain ⟨hready, hi⟩ := h.step_pay_not_held hr hp hstep hheld
    exact ⟨hready, by omega⟩

/-! ### The inputs of the ticks to come, seen from the next tick -/

theorem State.pinsAt_endTick (s : State) (j : Nat) : s.endTick.pinsAt j = s.pinsAt (j + 1) := by
  cases j with
  | zero =>
    unfold State.pinsAt
    rw [State.endTick_pins, State.nextEnv]
    cases s.script <;> rfl
  | succ j =>
    simp only [State.pinsAt, State.endTick_script, State.endTick_tick, List.getElem?_tail, Nat.add_assoc, Nat.add_comm 1]

theorem WorldKept.pinsAt (h : WorldKept s u) (j : Nat) : u.pinsAt (j + 1) = s.pinsAt (j + 1) := by
  simp only [State.pinsAt, h.script, h.tick]

/-- What the world does `j` ticks after this one does not depend on what the block does in it. -/
theorem WorldKept.endTick_pinsAt (h : WorldKept s u) (j : Nat) : u.endTick.pinsAt j = s.pinsAt (j + 1) :=
  (u.pinsAt_endTick j).trans (h.pinsAt j)

theorem WorldKept.endTick_noReset (h : WorldKept s u) (hr : s.NoReset (k + 1)) : u.endTick.NoReset k :=
  fun j hj => h.endTick_pinsAt j ▸ hr (j + 1) (Nat.succ_lt_succ hj)

theorem WorldKept.readyTicks_succ (h : WorldKept s u) (k : Nat) :
    s.readyTicks (k + 1) = s.pins.evReady.toNat + u.endTick.readyTicks k := by
  have htail : ((List.range k).map Nat.succ).filter (fun j => (s.pinsAt j).evReady) =
      ((List.range k).filter fun j => (u.endTick.pinsAt j).evReady).map Nat.succ := by
    simp only [List.filter_map, Function.comp_def, h.endTick_pinsAt]
  unfold State.readyTicks
  rw [List.range_succ_eq_map, List.filter_cons, htail]
  cases hready : s.pins.evReady <;> simp [State.pinsAt, hready, Nat.add_comm]

/-! ### The events a draw has left -/

/-- PANEL_BYTES fits the 16-bit counter N (R12). -/
theorem Config.panelBytes_toNat {c : Config} (h : c.legal = true) :
    (BitVec.ofNat 16 c.panelBytes).toNat = c.panelBytes := by
  obtain ⟨-, -, -, hle⟩ := Config.legal_bounds h
  exact Nat.mod_eq_of_lt (by omega)

/-- In a counting phase, with `c` events after it, one byte taken is one event fewer. -/
theorem State.countByte_eventsLeft {p : Phase} {c : Nat} (hi : s.i.toNat < s.n.toNat)
    (hstay : ∀ i, State.eventsLeft { s with i := i } = s.n.toNat - i.toNat + c)
    (hnext : ∀ i, State.eventsLeft { s with i := i, ph := p } = c) : (s.countByte p).eventsLeft + 1 = s.eventsLeft := by
  have hnow : s.eventsLeft = s.n.toNat - s.i.toNat + c := hstay s.i
  have hsucc := toNat_add_one_of_lt hi
  rcases State.countByte_cases (s := s) p with ⟨hlast, heq⟩ | ⟨-, heq⟩ <;> rw [heq]
  · rw [hnext, hnow, ← hlast]
    omega
  · rw [hstay, hnow]
    omega

/-- Every transition uses up one event of `Frame(P, N)` or of CLEAR's trace (R140, R152). -/
theorem BlockInv.advance_eventsLeft (h : BlockInv s) (hb : s.ph ≠ .idle) (hpoll : s.ph ≠ .poll) :
    s.advance.eventsLeft + 1 = s.eventsLeft := by
  have hpanel := Config.panelBytes_toNat h.cfg_legal
  unfold State.advance
  cases hp : s.ph with
  | idle => exact absurd hp hb
  | poll => exact absurd hp hpoll
  | win =>
    have hidx := h.win_idx hp
    dsimp only
    split
    · simp [State.eventsLeft, State.goto, *]
    · have hsucc : (s.idx + 1).toNat = s.idx.toNat + 1 := by bv_omega
      simp only [State.eventsLeft, hp, hsucc]
      omega
  | dtm =>
    dsimp only
    split <;> simp [State.eventsLeft, *]
  | pay => exact State.countByte_eventsLeft (c := 2) (h.pay_index hp) (fun _ => by simp [State.eventsLeft, hp]) fun _ => rfl
  | c1data =>
    obtain ⟨-, hi⟩ := h.clear_index (.inl hp)
    exact State.countByte_eventsLeft (c := s.cfg.panelBytes + 3) hi
      (fun _ => by simp [State.eventsLeft, hp, Nat.add_assoc]) fun _ => rfl
  | c2data =>
    obtain ⟨-, hi⟩ := h.clear_index (.inr hp)
    exact State.countByte_eventsLeft (c := 1) hi (fun _ => by simp [State.eventsLeft, hp]) fun _ => rfl
  | c1cmd =>
    have hzero : (0 : Word).toNat = 0 := rfl
    simp only [State.eventsLeft, State.startClearData, hp, hpanel, hzero]
    omega
  | _ => simp [State.eventsLeft, State.goto, State.startClearData, hp, hpanel]

theorem State.stall_eventsLeft (s : State) (e : Event) : (s.stall e).eventsLeft = s.eventsLeft := by
  rw [State.stall_eq]
  rfl

/-- A tick of a draw leaves one event fewer when the collaborator is ready, and as many when it is not. -/
theorem BlockInv.handshake_eventsLeft (h : BlockInv s) (hb : s.ph ≠ .idle) (hpoll : s.ph ≠ .poll) (e : Event) :
    (s.handshake e).eventsLeft + s.pins.evReady.toNat = s.eventsLeft := by
  rcases State.handshake_cases (s := s) e with ⟨hready, heq⟩ | ⟨hready, heq⟩ <;> rw [heq, hready]
  · exact (h.taken e).advance_eventsLeft hb hpoll
  · exact s.stall_eventsLeft e

/-! ### A draw ends -/

/-- A draw has answered OK. -/
def AnsweredOk (s : State) : Prop := s.ph = .idle ∧ s.status = .ok ∧ s.rspValid = true

theorem Phase.rank_pos {p : Phase} (hp : p ≠ .idle) : 1 ≤ p.rank := by
  cases p <;> simp [Phase.rank] at hp ⊢

/-- A taken event ends the draw with OK or leaves it running: no draw turns into polling (R28). -/
theorem State.advance_draw (hb : s.ph ≠ .idle) (hpoll : s.ph ≠ .poll) :
    AnsweredOk s.advance ∨ (s.advance.ph ≠ .idle ∧ s.advance.ph ≠ .poll) := by
  rcases State.advance_cases hb hpoll with heq | ⟨hlt, -⟩ | ⟨-, -, heq⟩ | ⟨-, -, heq⟩
  · exact .inl (heq ▸ ⟨rfl, rfl, rfl⟩)
  · have hrank : 1 < s.advance.ph.rank := (Phase.rank_pos hb).trans_lt hlt
    exact .inr ⟨fun hp => by simp [hp, Phase.rank] at hrank, fun hp => by simp [hp, Phase.rank] at hrank⟩
  · exact .inr (heq ▸ ⟨hb, hpoll⟩)
  · exact .inr (heq ▸ ⟨hb, hpoll⟩)

theorem State.handshake_draw (hb : s.ph ≠ .idle) (hpoll : s.ph ≠ .poll) (e : Event) :
    AnsweredOk (s.handshake e) ∨ ((s.handshake e).ph ≠ .idle ∧ (s.handshake e).ph ≠ .poll) := by
  rcases State.handshake_cases (s := s) e with ⟨-, heq⟩ | ⟨-, heq⟩ <;> rw [heq]
  · exact State.advance_draw (s := s.taken e) hb hpoll
  · rw [State.stall_eq]
    exact .inr ⟨hb, hpoll⟩

theorem BlockInv.eventsLeft_pos (h : BlockInv s) (hb : s.ph ≠ .idle) (hpoll : s.ph ≠ .poll) : 0 < s.eventsLeft :=
  h.advance_eventsLeft hb hpoll ▸ Nat.succ_pos _

/-- Settles O30, by induction on the ticks: each one uses up as many events as it has ready ticks, 0 or 1, so the
premise passes on to the ticks after it, and a draw that runs has an event left. -/
theorem drawEndsUnderAFairCollaborator : Obligations.DrawEndsUnderAFairCollaborator := by
  intro s k h hb hpoll hr hfair
  induction k generalizing s with
  | zero => exact absurd hfair (Nat.not_le.2 (h.eventsLeft_pos hb hpoll))
  | succ k ih =>
    obtain ⟨e, he⟩ := h.offered_ok hb hpoll
    have hrst : s.pins.rst = false := hr 0 (Nat.succ_pos k)
    have hstep := step_event hrst he
    rcases State.handshake_draw hb hpoll e with hdone | ⟨hb', hpoll'⟩
    · exact ⟨1, _, Nat.le_add_left 1 k, .tick hb hrst hstep (.zero _), hdone⟩
    · have hworld := WorldKept.handshake s e
      have hleft : (s.handshake e).endTick.eventsLeft + s.pins.evReady.toNat = s.eventsLeft :=
        h.handshake_eventsLeft hb hpoll e
      have hfair' : (s.handshake e).endTick.eventsLeft ≤ (s.handshake e).endTick.readyTicks k := by
        rw [hworld.readyTicks_succ] at hfair
        omega
      obtain ⟨j, t, hj, hbusy, hend⟩ :=
        ih _ (h.handshake hb e).endTick hb' hpoll' (hworld.endTick_noReset hr) hfair'
      exact ⟨j + 1, t, Nat.succ_le_succ hj, .tick hb hrst hstep hbusy, hend⟩

end Sys2Proof.Machine

/-! ## PROOFS. The descriptor: its fields, the mask, decode and encode -/

namespace Sys2Proof

variable {d e : Descriptor} {i : Instr} {o : Operands}

/-! ### Fields and their packing, R90 -/

theorem Operands.pack_eq_slots (o : Operands) : o.pack =
    o.op.setWidth 80 <<< 0 ||| (BitVec.ofBool o.color).setWidth 80 <<< 4 |||
      (BitVec.ofBool o.present).setWidth 80 <<< 5 ||| o.arg.setWidth 80 <<< 8 ||| o.x.setWidth 80 <<< 16 |||
      o.y.setWidth 80 <<< 32 ||| o.w.setWidth 80 <<< 48 ||| o.h.setWidth 80 <<< 64 := by
  rw [BitVec.shiftLeft_zero, Operands.pack]

/-- A field placed at bit `p` is read back from there. -/
theorem Descriptor.extractLsb'_slot_same {m p : Nat} (a : BitVec m) (h : p + m ≤ 80) :
    ((a.setWidth 80 : Descriptor) <<< p).extractLsb' p m = a := by
  ext j hj
  have hp : p + j < 80 := by omega
  simp [hj, hp]

/-- A field placed at bit `p` leaves the bits beside it 0. -/
theorem Descriptor.extractLsb'_slot_other {m p start len : Nat} (a : BitVec m)
    (h : p + m ≤ start ∨ start + len ≤ p) : ((a.setWidth 80 : Descriptor) <<< p).extractLsb' start len = 0#len := by
  ext j hj
  rcases h with h | h
  · have hm : m ≤ start + j - p := by omega
    simp [BitVec.getLsbD_of_ge _ _ hm]
  · have hp : start + j < p := by omega
    simp [hp]

/-- Packing keeps every field: no two of them share a bit. -/
@[simp] theorem Descriptor.operands_pack (o : Operands) : Descriptor.operands o.pack = o := by
  obtain ⟨op, color, present, arg, x, y, w, h⟩ := o
  rw [Operands.pack_eq_slots]
  simp only [Descriptor.operands, Operands.mk.injEq]
  refine ⟨?op, ?color, ?present, ?arg, ?x, ?y, ?w, ?h⟩
  case color => simp
  case present => simp
  all_goals
    simp (disch := omega) only [BitVec.extractLsb'_or, extractLsb'_slot_same, extractLsb'_slot_other, BitVec.zero_or,
      BitVec.or_zero]

/-- A packed descriptor has `rsv` 00: no field lies there. -/
@[simp] theorem Descriptor.rsv_pack (o : Operands) : Descriptor.rsv o.pack = 0 := by
  rw [Operands.pack_eq_slots, Descriptor.rsv]
  simp (disch := omega) only [BitVec.extractLsb'_or, extractLsb'_slot_other, BitVec.or_zero, BitVec.ofNat_eq_ofNat]

/-- Two descriptors that agree on a field agree on each bit of it. -/
theorem Descriptor.bit_eq_of_field_eq {start len j : Nat} (h : d.extractLsb' start len = e.extractLsb' start len)
    (hlo : start ≤ j) (hhi : j < start + len) : d.getLsbD j = e.getLsbD j := by
  obtain ⟨k, rfl⟩ := Nat.exists_eq_add_of_le hlo
  have hk : k < len := by omega
  simpa [hk] using congrArg (BitVec.getLsbD · k) h

/-- Every bit of a descriptor lies in a field: the fields and `rsv` determine it. -/
theorem Descriptor.eq_of_fields_eq (hr : Descriptor.rsv d = Descriptor.rsv e)
    (ho : Descriptor.operands d = Descriptor.operands e) : d = e := by
  obtain ⟨hop, hcolor, hpresent, harg, hx, hy, hw, hh⟩ := Operands.mk.inj ho
  refine BitVec.eq_of_getLsbD_eq fun j hj => ?_
  obtain h | rfl | rfl | h | h | h | h | h | h :
      j < 4 ∨ j = 4 ∨ j = 5 ∨ (6 ≤ j ∧ j < 8) ∨ (8 ≤ j ∧ j < 16) ∨ (16 ≤ j ∧ j < 32) ∨ (32 ≤ j ∧ j < 48) ∨
        (48 ≤ j ∧ j < 64) ∨ (64 ≤ j ∧ j < 80) := by omega
  · exact bit_eq_of_field_eq hop (Nat.zero_le j) (by omega)
  · exact hcolor
  · exact hpresent
  · exact bit_eq_of_field_eq hr h.1 h.2
  · exact bit_eq_of_field_eq harg h.1 h.2
  · exact bit_eq_of_field_eq hx h.1 h.2
  · exact bit_eq_of_field_eq hy h.1 h.2
  · exact bit_eq_of_field_eq hw h.1 h.2
  · exact bit_eq_of_field_eq hh h.1 h.2

theorem Descriptor.pack_operands (hr : Descriptor.rsv d = 0) : (Descriptor.operands d).pack = d :=
  eq_of_fields_eq (by simp [hr]) (operands_pack _)

@[simp] theorem Descriptor.operands_encode (i : Instr) : Descriptor.operands (encode i) = i.operands := operands_pack _

/-- A descriptor that is not reserved: `rsv` is 00 and `op` is an operation number (R91, R94). -/
def Descriptor.Selects (d : Descriptor) : Prop :=
  Descriptor.rsv d = 0 ∧ 1 ≤ (Descriptor.operands d).op.toNat ∧ (Descriptor.operands d).op.toNat ≤ 6

/-! ### What decodes, and to what -/

/-- X holds the low half of TMO, R22. -/
theorem Operands.tmo_low (o : Operands) : o.tmo.extractLsb' 0 16 = o.x :=
  BitVec.eq_of_toNat_eq (by rw [BitVec.extractLsb'_toNat, Nat.shiftRight_zero, tmo_toNat]; omega)

/-- Y holds the high half of TMO, R22. -/
theorem Operands.tmo_high (o : Operands) : o.tmo.extractLsb' 16 16 = o.y :=
  BitVec.eq_of_toNat_eq (by rw [BitVec.extractLsb'_toNat, Nat.shiftRight_eq_div_pow, tmo_toNat]; omega)

/-- The timeout of WAITREADY is read back from the two latches it lies in, R96. -/
theorem Instr.tmo_operands_waitready (n : Count) (w h : Word) (arg : Byte) (present color : Bool) :
    (Instr.waitready n w h arg present color).operands.tmo = n := by
  refine BitVec.eq_of_toNat_eq ?_
  rw [Operands.tmo_toNat]
  simp only [Instr.operands, BitVec.extractLsb'_toNat, Nat.shiftRight_eq_div_pow]
  omega

/-- Fields with an operation number of the table are those of an operation, R91. -/
theorem Operands.exists_instr (hlo : 1 ≤ o.op.toNat) (hhi : o.op.toNat ≤ 6) : ∃ i : Instr, i.operands = o := by
  have hlow := o.tmo_low
  have hhigh := o.tmo_high
  obtain ⟨op, color, present, arg, x, y, w, h⟩ := o
  obtain rfl | rfl | rfl | rfl | rfl | rfl : op = 1 ∨ op = 2 ∨ op = 3 ∨ op = 4 ∨ op = 5 ∨ op = 6 := by
    simp only at hlo hhi
    bv_omega
  · exact ⟨.window x y w h arg present color, rfl⟩
  · exact ⟨.fill x y w h arg present color, rfl⟩
  · exact ⟨.rawbuf x y w h present arg color, rfl⟩
  · exact ⟨.glyph x y arg color w h present, rfl⟩
  · exact ⟨.clear x y w h arg present color, rfl⟩
  · exact ⟨.waitready _ w h arg present color, by rw [Instr.operands, hlow, hhigh]; rfl⟩

/-- A descriptor of an operation's fields, with `rsv` 00, decodes to that operation. -/
theorem decode_of_operands (hr : Descriptor.rsv d = 0) (ho : i.operands = Descriptor.operands d) :
    decode d = .ok i := by
  simp only [decode, if_pos hr, ← ho, Instr.operands_op]
  cases i with
  | waitready n w h arg present color =>
    exact congrArg (fun tmo => Except.ok (Instr.waitready tmo w h arg present color))
      (Instr.tmo_operands_waitready n w h arg present color)
  | _ => rfl

/-- A descriptor that selects an operation holds that operation's fields and decodes to it. -/
theorem Descriptor.Selects.decode_ok (h : d.Selects) :
    ∃ i : Instr, i.operands = Descriptor.operands d ∧ decode d = .ok i := by
  obtain ⟨hr, hlo, hhi⟩ := h
  obtain ⟨i, ho⟩ := Operands.exists_instr hlo hhi
  exact ⟨i, ho, decode_of_operands hr ho⟩

/-- A reserved `rsv` or operation number is refused by name, R94. -/
theorem decode_error_of_not_selects (h : ¬ d.Selects) : ∃ r, decode d = .error r := by
  by_cases hr : Descriptor.rsv d = 0
  · have hop : ¬ (1 ≤ (Descriptor.operands d).op.toNat ∧ (Descriptor.operands d).op.toNat ≤ 6) := fun hop => h ⟨hr, hop⟩
    simp only [decode, if_pos hr]
    split
    case h_7 => exact ⟨_, rfl⟩
    all_goals omega
  · exact ⟨_, if_neg hr⟩

theorem decode_error_iff : (∃ r, decode d = .error r) ↔ ¬ d.Selects := by
  refine ⟨fun ⟨r, herr⟩ hsel => ?_, decode_error_of_not_selects⟩
  obtain ⟨i, -, hok⟩ := hsel.decode_ok
  exact nomatch herr.symm.trans hok

theorem decode_eq_ok_iff : decode d = .ok i ↔ Descriptor.rsv d = 0 ∧ i.operands = Descriptor.operands d := by
  refine ⟨fun h => ?_, fun ⟨hr, ho⟩ => decode_of_operands hr ho⟩
  have hsel : d.Selects := Classical.not_not.1 fun hno => by
    obtain ⟨r, herr⟩ := decode_error_of_not_selects hno
    exact nomatch herr.symm.trans h
  obtain ⟨i', ho, hok⟩ := hsel.decode_ok
  obtain rfl : i' = i := Except.ok.inj (hok.symm.trans h)
  exact ⟨hsel.1, ho⟩

/-! ### The round trip, and the mask of R91 -/

/-- The mask of R91 keeps `op` and `rsv`. -/
theorem Descriptor.mask_toNat (d : Descriptor) :
    (d &&& 0xCF).toNat = (Descriptor.operands d).op.toNat + 64 * (Descriptor.rsv d).toNat := by
  have hbits : d &&& 0xCF = (Descriptor.rsv d ++ (Descriptor.operands d).op.setWidth 6).setWidth 80 := by
    ext j hj
    rw [BitVec.getElem_setWidth, BitVec.getLsbD_append]
    interval_cases j <;> simp [Descriptor.rsv, Descriptor.operands]
  have hop : ((Descriptor.operands d).op.setWidth 6).toNat = (Descriptor.operands d).op.toNat :=
    BitVec.toNat_setWidth_of_le (by decide)
  rw [hbits, BitVec.toNat_setWidth_of_le (by decide), BitVec.toNat_append,
    ← Nat.shiftLeft_add_eq_or_of_lt (BitVec.isLt _), Nat.shiftLeft_eq, hop]
  omega

/-- Settles O1: packing keeps the fields and leaves `rsv` 00, and the fields determine the operation. -/
theorem decodeInvertsEncode : Obligations.DecodeInvertsEncode := fun _ =>
  decode_of_operands (Descriptor.rsv_pack _) (Descriptor.operands_encode _).symm

/-- Settles O2: what decodes has `rsv` 00 and the operation's fields, and packing these gives it back. -/
theorem encodeInvertsDecode : Obligations.EncodeInvertsDecode := by
  intro d i h
  obtain ⟨hr, ho⟩ := decode_eq_ok_iff.1 h
  rw [encode, ho, Descriptor.pack_operands hr]

/-- Settles O3: the masked word is `op + 64 * rsv`, so it is a number below 8 only with `rsv` 00. -/
theorem maskSelectsTheOperation : Obligations.MaskSelectsTheOperation := by
  intro d
  have hmask := d.mask_toNat
  have hop := (Descriptor.operands d).op.isLt
  have hr0 : Descriptor.rsv d = 0 ↔ (Descriptor.rsv d).toNat = 0 := by bv_omega
  have hsel {k : Nat} (hk : k ≤ 6) :
      (d &&& 0xCF).toNat = k ↔ Descriptor.rsv d = 0 ∧ (Descriptor.operands d).op.toNat = k := by
    rw [hmask, hr0]
    omega
  refine ⟨fun k _ hk => hsel hk, ?_, ?_, ?_, ?_, ?_, ?_, ?_⟩
  case refine_7 =>
    rw [decode_error_iff, Descriptor.Selects, hr0]
    omega
  all_goals
    intro h
    obtain ⟨hr, hop⟩ := (hsel (by decide)).1 h
    simp [decode, hr, hop]

/-- Settles O5: each word is decoded as it stands. -/
theorem wordsOfTheTableDecode : Obligations.WordsOfTheTableDecode :=
  ⟨rfl, rfl, rfl, rfl, rfl, rfl⟩

/-! ### Text, R112 -/

/-- Settles O6, by induction on the text: the rest of it is drawn from `x + 8`. -/
theorem textIsOneGlyphPerCharacter : Obligations.TextIsOneGlyphPerCharacter := by
  intro x y text color
  induction text generalizing x with
  | nil => simp [drawText]
  | cons c rest ih =>
    obtain ⟨hlen, hget⟩ := ih (x + Config.textAdvance)
    refine ⟨congrArg (· + 1) hlen, fun i c' hc => ?_⟩
    cases i with
    | zero =>
      obtain rfl : c = c' := by simpa using hc
      rfl
    | succ i =>
      have hx : x + Config.textAdvance + 8 * i = x + 8 * (i + 1) := by
        simp only [Config.textAdvance]
        omega
      exact hx ▸ hget i c' hc

end Sys2Proof

/-! ## PROOFS. Acceptance is total, and the block never stops -/

namespace Sys2Proof.Machine

variable {s : State}

/-- A request at an idle block is accepted, whatever it is (R93). -/
theorem exec_idle_next (hp : s.ph = .idle) (i : Instr) : ∃ u, exec i s = .next u := by
  cases i <;> exact ⟨_, State.offerRequest_idle hp _ _ _⟩

/-- Settles O8: an accepted request is answered or started, and none of these touches the latches once written. -/
theorem acceptanceLatchesEveryField : Obligations.AcceptanceLatchesEveryField := by
  intro i s hp
  obtain ⟨u, hu⟩ := exec_idle_next hp i
  refine ⟨u, hu, ?_⟩
  rw [Descriptor.operands_encode]
  rcases exec_idle_cases hp hu with ⟨_, rfl⟩ | ⟨_, rfl⟩ | ⟨_, _, rfl⟩ | rfl | rfl <;>
    exact ⟨rfl, rfl, rfl, rfl, rfl, rfl, rfl, rfl, rfl, rfl, rfl, rfl, rfl⟩

theorem State.blockTick_reserved {r : Reserved} (hp : s.ph = .idle) (hv : s.pins.reqValid = true)
    (hd : decode s.pins.reqDesc = .error r) :
    s.blockTick = .next ((s.latch (Descriptor.operands s.pins.reqDesc)).respond .invalidOp) := by
  simp only [State.blockTick, hv, if_true, hd]
  exact State.offerRequest_idle hp _ _ _

/-- An idle block that is answered stays idle: the response alone is written. -/
theorem State.respond_of_idle (hp : s.ph = .idle) (c : Code) :
    s.respond c = { s with status := c, rspValid := true } := by
  rw [State.respond, ← hp]

/-- Settles O4: the reserved descriptors are those that decode to none, and their one check fails. -/
theorem reservedDescriptorIsRejected : Obligations.ReservedDescriptorIsRejected := by
  intro d
  refine ⟨?_, fun s ⟨r, hd⟩ hp hr hv hreq => ?_⟩
  · rw [decode_error_iff]
    simp only [Descriptor.Selects, Descriptor.rsv, Descriptor.operands]
    bv_omega
  · subst hreq
    rw [step_eq_of_no_reset hr, State.blockTick_reserved hp hv hd, State.respond_of_idle (s := s.latch _) hp]
    rfl

/-- With the invariant a tick without acceptance has a next state: a poll, or the handshake of the event on offer. -/
theorem BlockInv.runTick_next (h : BlockInv s) : ∃ u, s.runTick = .next u := by
  by_cases hp : s.ph = .idle
  · exact ⟨_, State.runTick_idle hp⟩
  by_cases hpoll : s.ph = .poll
  · exact ⟨_, State.runTick_poll hpoll⟩
  obtain ⟨e, he⟩ := h.offered_ok hp hpoll
  exact ⟨_, State.runTick_event hp hpoll he⟩

theorem BlockInv.blockTick_next (h : BlockInv s) : ∃ u, s.blockTick = .next u := by
  by_cases hp : s.ph = .idle
  · cases hv : s.pins.reqValid with
    | false => exact State.blockTick_no_request hv ▸ h.runTick_next
    | true =>
      cases hd : decode s.pins.reqDesc with
      | ok i => exact State.blockTick_request hv hd ▸ exec_idle_next hp i
      | error r => exact ⟨_, State.blockTick_reserved hp hv hd⟩
  · exact State.blockTick_busy hp ▸ h.runTick_next

/-- Settles O53: a reset tick is total, and so is every tick of a block that meets the invariant. -/
theorem blockNeverStops : Obligations.BlockNeverStops := by
  intro s h
  cases hr : s.pins.rst with
  | true => exact ⟨_, if_pos hr⟩
  | false =>
    obtain ⟨u, hu⟩ := h.blockTick_next
    exact ⟨_, by rw [step_eq_of_no_reset hr, hu, onNext]⟩

end Sys2Proof.Machine

/-! ## PROOFS. The window of a rectangle and its seven bytes -/

namespace Sys2Proof.Machine

variable {c : Config} {x y w h : Word} {s : State}

/-! ### The two masks and the bytes as arithmetic -/

/-- Clearing the low 3 bits rounds down to a multiple of 8 (R120). -/
theorem and_fff8_toNat (v : Word) : (v &&& 0xFFF8).toNat = 8 * (v.toNat / 8) := by
  rw [BitVec.toNat_and, show (0xFFF8 : Word).toNat = 0xFFF8 from rfl]
  have hdiv : (v.toNat &&& 0xFFF8) / 8 = v.toNat / 8 := by
    have hv : v.toNat / 8 < 2 ^ 13 := by omega
    rw [Nat.and_div_two_pow (n := 3)]
    exact Nat.and_two_pow_sub_one_of_lt_two_pow hv
  have hmod : (v.toNat &&& 0xFFF8) % 8 = 0 := by
    rw [Nat.and_mod_two_pow (n := 3)]
    exact Nat.and_zero _
  omega

/-- Setting the low 3 bits rounds up to the next number before a multiple of 8 (R121). -/
theorem or_seven_toNat (v : Word) : (v ||| 7).toNat = 8 * (v.toNat / 8) + 7 := by
  rw [BitVec.toNat_or, show (7 : Word).toNat = 7 from rfl]
  have hdiv : (v.toNat ||| 7) / 8 = v.toNat / 8 := by
    rw [Nat.or_div_two_pow (n := 3)]
    exact Nat.or_zero _
  have hmod : (v.toNat ||| 7) % 8 = 7 := by
    rw [Nat.or_mod_two_pow (n := 3)]
    have hlow : ∀ r < 8, r ||| 7 = 7 := by decide
    exact hlow _ (Nat.mod_lt _ (by decide))
  omega

theorem horizontalStart_toNat (x : Word) : (horizontalStart x).toNat = 8 * (x.toNat / 8) := and_fff8_toNat x

theorem horizontalEnd_toNat (x w : Word) :
    (horizontalEnd x w).toNat = 8 * ((horizontalStart x + w - 1).toNat / 8) + 7 := or_seven_toNat _

theorem toNat_add_sub_one (hw : 1 ≤ w.toNat) (hsum : x.toNat + w.toNat - 1 < 65536) :
    (x + w - 1).toNat = x.toNat + w.toNat - 1 := by bv_omega

/-- Where the sum does not wrap the end is the last pixel of byte `ceil(width/8)` of the row (R126). -/
theorem horizontalEnd_toNat_of_no_wrap (hw : 1 ≤ w.toNat) (hsum : (horizontalStart x).toNat + w.toNat - 1 < 65536) :
    (horizontalEnd x w).toNat = (horizontalStart x).toNat + 8 * ceilDiv8 w.toNat - 1 := by
  rw [horizontalEnd_toNat, toNat_add_sub_one hw hsum, horizontalStart_toNat, ceilDiv8]
  omega

theorem lowByte_toNat (v : Word) : (lowByte v).toNat = v.toNat % 256 := BitVec.toNat_setWidth ..

theorem highByte_toNat (v : Word) : (highByte v).toNat = v.toNat / 256 % 2 := by
  rw [highByte, BitVec.toNat_setWidth_of_le (by decide), BitVec.extractLsb'_toNat, Nat.shiftRight_eq_div_pow]

theorem lowByte_toNat_of_le {v : Word} (hv : v.toNat ≤ 255) : (lowByte v).toNat = v.toNat := by
  rw [lowByte_toNat]
  omega

/-- A bound of nine bits is read back from its two bytes (R124). -/
theorem high_low_toNat {v : Word} (hv : v.toNat ≤ 511) :
    256 * ((highByte v).toNat % 2) + (lowByte v).toNat = v.toNat := by
  rw [highByte_toNat, lowByte_toNat]
  omega

/-! ### Where nothing wraps -/

/-- Settles O12: the start is `8 * (x div 8)` and the end is the last pixel of the `ceil(width/8)` bytes from there. -/
theorem windowIsCeilOfWidthBytes : Obligations.WindowIsCeilOfWidthBytes := by
  intro x y w h hw hsum
  have hend := horizontalEnd_toNat_of_no_wrap hw hsum
  have hstart := horizontalStart_toNat x
  simp only [computeWindow, ceilDiv8] at *
  omega

/-- Settles O13: the reading not taken ends at the byte of the last pixel, which O12's end may not reach. -/
theorem theTwoReadingsOfStart : Obligations.TheTwoReadingsOfStart := by
  intro x w hw hsum
  have hstart := horizontalStart_toNat x
  have htaken := horizontalEnd_toNat_of_no_wrap (x := x) hw (by omega)
  have hother := or_seven_toNat (x + w - 1)
  rw [toNat_add_sub_one hw hsum] at hother
  rw [Ne, ← BitVec.toNat_inj, htaken, hother, hstart, ceilDiv8]
  omega

/-- A checked row span does not wrap and ends in the last byte column at the latest, which one byte can name (R130). -/
theorem checked_horizontal (hc : c.legal = true) (hg : geomOk c x y w h = true) :
    (horizontalStart x).toNat + w.toNat - 1 < 65536 ∧ (horizontalStart x).toNat ≤ (horizontalEnd x w).toNat ∧
    (horizontalEnd x w).toNat ≤ 8 * c.byteW - 1 ∧ 8 * c.byteW - 1 ≤ 255 := by
  obtain ⟨hw, -, hx, -⟩ := (geomOk_iff c x y w h).1 hg
  obtain ⟨-, hbyteW, -⟩ := Config.legal_bounds hc
  have hstart := horizontalStart_toNat x
  have hsum : (horizontalStart x).toNat + w.toNat - 1 < 65536 := by omega
  have hend := horizontalEnd_toNat_of_no_wrap hw hsum
  rw [ceilDiv8] at hend
  omega

/-- A checked column span does not wrap and ends in the last row at the latest, which nine bits can name (R130). -/
theorem checked_vertical (hc : c.legal = true) (hg : geomOk c x y w h = true) :
    y.toNat + h.toNat - 1 < 65536 ∧ y.toNat ≤ (verticalEnd y h).toNat ∧
    (verticalEnd y h).toNat ≤ c.panelH - 1 ∧ c.panelH - 1 ≤ 511 := by
  obtain ⟨-, hh, -, hy⟩ := (geomOk_iff c x y w h).1 hg
  obtain ⟨-, -, -, hpanelH, -⟩ := (Config.legal_iff c).1 hc
  have hsum : y.toNat + h.toNat - 1 < 65536 := by omega
  have hend : (verticalEnd y h).toNat = y.toNat + h.toNat - 1 := toNat_add_sub_one hh hsum
  omega

/-- Settles O14: HS and HE fit one byte, VS and VE fit nine bits. -/
theorem checkedWindowLosesNothing : Obligations.CheckedWindowLosesNothing := by
  intro c x y w h hc hg
  obtain ⟨hsum, hstart, hend, hbyteW⟩ := checked_horizontal hc hg
  obtain ⟨hvsum, hvs, hve, hpanelH⟩ := checked_vertical hc hg
  exact ⟨hsum, hvsum, hend, hbyteW, hve, hpanelH, _, _, _, _, _, _, rfl,
    lowByte_toNat_of_le (hstart.trans (hend.trans hbyteW)), lowByte_toNat_of_le (hend.trans hbyteW),
    high_low_toNat (hvs.trans (hve.trans hpanelH)), high_low_toNat (hve.trans hpanelH)⟩

/-! ### The operation WINDOW, R127 -/

theorem execWindow_idle (hp : s.ph = .idle) (arg : Byte) (present color : Bool) :
    exec (.window x y w h arg present color) s =
      .next (((s.latch (Instr.window x y w h arg present color).operands).setWindow
        (computeWindow x y w h)).respond .ok) :=
  State.offerRequest_idle hp ..

/-- The port carries the window of the last request where that was answered OK and has a window (R37). -/
theorem State.rspWin_eq_some (hv : s.rspValid = true) (hok : s.status = .ok) (hlo : 1 ≤ s.lat.op.toNat)
    (hhi : s.lat.op.toNat ≤ 4) : s.rspWin = some (packWindowBytes s.cfg s.win) :=
  if_pos ⟨hv, hok, hlo, hhi⟩

/-- Settles O10: WINDOW has no check to fail, and the port packs the bytes of the window it has just written. -/
theorem windowReturnsTheWindow : Obligations.WindowReturnsTheWindow := by
  intro s x y w h arg present color hp
  refine ⟨?_, rfl, State.rspWin_eq_some rfl rfl (Nat.le_refl 1) (Nat.le_of_ble_eq_true rfl)⟩
  rw [execWindow_idle hp, State.respond_of_idle (s := (s.latch _).setWindow _) hp]
  rfl

/-! ### What holds for every input -/

theorem horizontalStart_mod_eight (x : Word) : (horizontalStart x).toNat % 8 = 0 := by
  rw [horizontalStart_toNat, Nat.mul_mod_right]

theorem horizontalEnd_mod_eight (x w : Word) : (horizontalEnd x w).toNat % 8 = 7 := by
  rw [horizontalEnd_toNat, Nat.mul_add_mod]

/-- The low 3 bits of a register's low byte are the register's. -/
theorem lowByte_and_seven (v : Word) : lowByte v &&& 7 = BitVec.ofNat 8 (v.toNat % 8) := by
  apply BitVec.eq_of_toNat_eq
  have hbyte : (lowByte v &&& 7).toNat = (lowByte v).toNat % 8 := Nat.and_two_pow_sub_one_eq_mod _ 3
  rw [hbyte, lowByte_toNat, BitVec.toNat_ofNat]
  omega

theorem highByte_toNat_le_one (v : Word) : (highByte v).toNat ≤ 1 := by
  rw [highByte_toNat]
  exact Nat.le_of_lt_succ (Nat.mod_lt _ (by decide))

/-- Settles O11: rounding down keeps `x` but for its residue, and the low byte of an end keeps the end's low bits. -/
theorem windowFieldInvariants : Obligations.WindowFieldInvariants := by
  intro c x y w h
  obtain ⟨hle, hrest⟩ : (horizontalStart x).toNat ≤ x.toNat ∧ x.toNat - (horizontalStart x).toNat = x.toNat % 8 := by
    rw [horizontalStart_toNat]
    omega
  have hstart : lowByte (horizontalStart x) &&& 7 = 0 :=
    (lowByte_and_seven _).trans (congrArg (BitVec.ofNat 8) (horizontalStart_mod_eight x))
  have hend : lowByte (horizontalEnd x w) &&& 7 = 7 :=
    (lowByte_and_seven _).trans (congrArg (BitVec.ofNat 8) (horizontalEnd_mod_eight x w))
  exact ⟨horizontalStart_mod_eight x, hle, hrest, horizontalEnd_mod_eight x w, _, _, _, _, _, _, rfl, hstart, hend,
    highByte_toNat_le_one y, highByte_toNat_le_one (verticalEnd y h)⟩

/-- Settles O15: with width 0 the sum is one less than the start, and its low 3 bits are ones already. -/
theorem emptyRectangleWindow : Obligations.EmptyRectangleWindow := by
  intro x y w h
  have hstart := horizontalStart_toNat x
  have hend : (horizontalEnd x 0).toNat = (horizontalStart x - 1).toNat := by
    rw [horizontalEnd_toNat]
    bv_omega
  refine ⟨fun _ => BitVec.eq_of_toNat_eq hend, fun hx => ?_, congrArg (· - 1) (BitVec.add_zero y)⟩
  have hzero : horizontalStart x = 0 := by bv_omega
  rw [hzero] at hend
  exact BitVec.eq_of_toNat_eq hend

end Sys2Proof.Machine

/-! ## PROOFS. The list `Frame(P, N)`, the payload of a glyph, and the start of a draw -/

namespace Sys2Proof.Machine

variable {s u : State} {c : Config} {w : WindowRect} {p : Nat → Byte} {n : Nat}

/-! ### The list `Frame(P, N)`, R140, R144 -/

theorem frame_length : (frame c w p n).length = n + 12 := by
  simp [frame, windowBytes]

/-- Settles O42: each part of the frame holds events of one kind, so a count goes part by part. -/
theorem frameLength : Obligations.FrameLength := by
  intro c w p n
  refine ⟨frame_length, ?_, ?_, ?_⟩ <;>
    simp [frame, windowBytes, Event.kind, List.filter_map, Function.comp_def, Nat.add_comm 7 n]

/-- What comes before the payload: PTIN, PTL, the seven window bytes and DTM2. -/
def frameHead (c : Config) (w : WindowRect) : List Event :=
  [.cmd c.opPtin, .cmd c.opPtl] ++ (windowBytes c w).map .data ++ [.cmd c.opDtm2]

theorem frame_eq : frame c w p n = frameHead c w ++
    ((List.range n).map (fun i => .data (p i)) ++ [.delay c.tSettle, .cmd c.opPtout]) :=
  List.append_assoc ..

theorem frame_head {j : Nat} (hj : j < 10) : (frame c w p n)[j]? = (frameHead c w)[j]? := by
  rw [frame_eq]
  exact List.getElem?_append_left hj

theorem frame_after_head (j : Nat) : (frame c w p n)[10 + j]? =
    ((List.range n).map (fun i => Event.data (p i)) ++ [.delay c.tSettle, .cmd c.opPtout])[j]? := by
  rw [frame_eq, List.getElem?_append_right (Nat.le_add_right 10 j)]
  exact congrArg _ (Nat.add_sub_cancel_left 10 j)

theorem frame_window {k : Nat} (hk : k < 7) : (frame c w p n)[2 + k]? = (windowByte c w k).map .data := by
  rw [frame_head (by omega), frameHead, List.append_assoc, List.getElem?_append_right (Nat.le_add_right 2 k)]
  have hlen : k < ((windowBytes c w).map Event.data).length := hk
  rw [show 2 + k - [Event.cmd c.opPtin, .cmd c.opPtl].length = k from Nat.add_sub_cancel_left 2 k,
    List.getElem?_append_left hlen, List.getElem?_map]
  rfl

theorem frame_payload {i : Nat} (hi : i < n) : (frame c w p n)[10 + i]? = some (.data (p i)) := by
  simp [frame_after_head, List.getElem?_append_left, hi]

theorem frame_settle : (frame c w p n)[10 + n]? = some (.delay c.tSettle) := by
  simp [frame_after_head]

theorem frame_ptout : (frame c w p n)[10 + (n + 1)]? = some (.cmd c.opPtout) := by
  simp [frame_after_head]

/-! ### The payload of a glyph, R150 -/

/-- The places 0 to 16 in the numbers of R150. -/
theorem State.glyphPayload_eq_ite (s : State) (j : Nat) : s.glyphPayload j =
    if j < 2 then .ok (glyphMarginByte s.lat.color)
    else if j < 15 then (s.glyphRead (glyphIndex s.lat.arg) (j - 2)).map (glyphContent s.lat.color)
    else if j < 17 then .ok (glyphMarginByte s.lat.color)
    else .error .payloadIndex := rfl

theorem State.glyphPayload_margin {j : Nat} (hj : j < 2 ∨ 15 ≤ j ∧ j < 17) :
    s.glyphPayload j = .ok (glyphMarginByte s.lat.color) := by
  rw [State.glyphPayload_eq_ite]
  rcases hj with hj | ⟨hlo, hhi⟩
  · rw [if_pos hj]
  · rw [if_neg (by omega), if_neg (by omega), if_pos hhi]

theorem State.glyphPayload_row {k : Nat} (hk : k < 13) :
    s.glyphPayload (2 + k) = (s.glyphRead (glyphIndex s.lat.arg) k).map (glyphContent s.lat.color) := by
  rw [State.glyphPayload_eq_ite, if_neg (by omega), if_pos (by omega), Nat.add_sub_cancel_left]

theorem State.glyphPayload_outside {j : Nat} (hj : 17 ≤ j) : s.glyphPayload j = .error .payloadIndex := by
  rw [State.glyphPayload_eq_ite, if_neg (by omega), if_neg (by omega), if_neg (by omega)]

/-- The places of a glyph's payload: a margin, a row, or none. -/
theorem glyph_place (j : Nat) : (j < 2 ∨ 15 ≤ j ∧ j < 17) ∨ (∃ k < 13, j = 2 + k) ∨ 17 ≤ j := by
  by_cases hrow : 2 ≤ j ∧ j < 15
  · exact .inr (.inl ⟨j - 2, by omega, by omega⟩)
  · omega

/-- A checked code's rows are in the table, so each row is sent. -/
theorem State.glyphPayload_content (hcode : glyphOk s.cfg s.lat.arg = true) {k : Nat} (hk : k < 13) :
    s.glyphPayload (2 + k) = .ok (glyphContent s.lat.color (s.glyphByte (glyphIndex s.lat.arg) k)) := by
  obtain ⟨hg, -⟩ := glyphIndex_lt_of_glyphOk hcode
  rw [State.glyphPayload_row hk, State.glyphRead, if_pos ⟨hg, hk⟩]
  rfl

/-- Settles O40: the margins and the rows are places of their own, and the port follows I between the margins. -/
theorem glyphPayloadBytes_ok : Obligations.GlyphPayloadBytes := by
  intro s hcode
  refine ⟨State.glyphPayload_margin (by decide), State.glyphPayload_margin (by decide),
    State.glyphPayload_margin (by decide), State.glyphPayload_margin (by decide),
    fun k hk => State.glyphPayload_content hcode hk, fun hp hop => ⟨fun hlo hhi => ?_, fun hout => ?_⟩⟩
  · exact State.glyphIdx_eq_some.2 ⟨⟨hp, hop, hlo, hhi⟩, rfl, rfl⟩
  · refine Option.eq_none_iff_forall_ne_some.2 fun ⟨g, k⟩ hread => ?_
    obtain ⟨⟨-, -, hlo, hhi⟩, -⟩ := State.glyphIdx_eq_some.1 hread
    omega

theorem glyphMarginByte_colours : glyphMarginByte true = ~~~ glyphMarginByte false := by decide

theorem glyphContent_colours (stored : Byte) : glyphContent true stored = ~~~ glyphContent false stored :=
  (BitVec.not_not (b := stored)).symm

/-- Settles O41: at a margin the two bytes are 0xFF and 0x00; at a row they come from one read, which does not depend on
the colour; and there is no other place. -/
theorem glyphColoursAreComplements : Obligations.GlyphColoursAreComplements := by
  intro s j a b ha hb
  rcases glyph_place j with hmargin | ⟨k, hk, rfl⟩ | hout
  · rw [State.glyphPayload_margin hmargin] at ha hb
    cases ha
    cases hb
    exact glyphMarginByte_colours
  · rw [State.glyphPayload_row hk] at ha hb
    change (s.glyphRead (glyphIndex s.lat.arg) k).map _ = _ at ha hb
    cases hread : s.glyphRead (glyphIndex s.lat.arg) k with
    | error f => rw [hread] at ha; cases ha
    | ok stored =>
      rw [hread] at ha hb
      cases ha
      cases hb
      exact glyphContent_colours stored
  · rw [State.glyphPayload_outside hout] at ha
    cases ha

/-- The payload of the sequencer is the payload of the trace (R149, R169). -/
theorem State.glyphPayload_eq (hcode : glyphOk s.cfg s.lat.arg = true) {j : Nat} (hj : j < 17) :
    s.glyphPayload j =
      .ok ((glyphPayloadBytes (fun k => s.glyphByte (s.lat.arg.toNat - 32) k) s.lat.color).getD j 0) := by
  rcases glyph_place j with hmargin | ⟨k, hk, rfl⟩ | hout
  · rw [State.glyphPayload_margin hmargin]
    rcases hmargin with _ | ⟨_, _⟩ <;> interval_cases j <;> rfl
  · rw [State.glyphPayload_content hcode hk]
    interval_cases k <;> rfl
  · omega

/-! ### The start of a draw -/

/-- A request that passes its checks at an idle block starts (R93). -/
theorem exec_start {i : Instr} (hp : s.ph = .idle) (hc : checkOf i (s.latch i.operands) = none) :
    exec i s = .next (startOf i (s.latch i.operands)) := by
  obtain ⟨u, hu⟩ := exec_idle_next hp i
  rcases State.accept_cases (s := s) i.operands (checkOf i) (startOf i) with ⟨c, hfail, -⟩ | ⟨-, heq⟩
  · simp [hc] at hfail
  · rw [hu, exec_idle hp hu, heq]

theorem rawLength_lt {x y w h : Word} (hc : c.legal = true) (hg : geomOk c x y w h = true) : rawLength w h < 2 ^ 16 :=
  (rawLength_le_fillLength w h).trans_lt (fillLength_lt hc hg)

/-- Settles O16: both checks pass, and a checked rectangle's length fits N. -/
theorem fillStarts : Obligations.FillStarts := by
  intro s x y w h v present color hp hready hg
  exact ⟨exec_start hp ((checkFill_none_iff _).2 ⟨hready, hg⟩), fun hc => Nat.mod_eq_of_lt (fillLength_lt hc hg)⟩

/-- Settles O17: the checks are FILL's, and its length is at most FILL's. -/
theorem rawbufStarts : Obligations.RawbufStarts := by
  intro s x y w h present arg color hp hready hg
  exact ⟨exec_start hp ((checkRawbuf_none_iff _).2 ⟨hready, hg⟩), fun hc => Nat.mod_eq_of_lt (rawLength_lt hc hg)⟩

/-- Settles O18: the three checks pass; the length is 17 for every code. -/
theorem glyphStarts : Obligations.GlyphStarts := by
  intro s x y code color w h present hp hready hcode hg
  exact exec_start hp ((checkGlyph_none_iff _).2 ⟨hready, hcode, hg⟩)

/-- Settles O19: the one check passes, and an idle block offers no event. -/
theorem clearStarts : Obligations.ClearStarts := by
  intro s x y w h arg present color hp hready
  exact ⟨exec_start hp ((checkClear_none_iff _).2 hready), State.event_idle hp⟩

end Sys2Proof.Machine

/-! ## PROOFS. The trace of a draw: each taken event is the next of its list (R169) -/

namespace Sys2Proof.Machine

variable {s s₀ t u : State} {e : Event} {p : Nat → Byte} {k n : Nat} {base events : List Event}

/-! ### What a running operation keeps -/

/-- What no tick of a running operation writes. -/
structure Kept (s t : State) : Prop where
  cfg : t.cfg = s.cfg
  glyphRom : t.glyphRom = s.glyphRom
  lat : t.lat = s.lat
  win : t.win = s.win

theorem Kept.refl (s : State) : Kept s s := ⟨rfl, rfl, rfl, rfl⟩

theorem Kept.trans (h : Kept s t) (h' : Kept t u) : Kept s u :=
  ⟨h'.cfg.trans h.cfg, h'.glyphRom.trans h.glyphRom, h'.lat.trans h.lat, h'.win.trans h.win⟩

theorem Kept.step (hb : s.ph ≠ .idle) (hr : s.pins.rst = false) (h : Machine.step s = .next t) : Kept s t := by
  obtain ⟨hcfg, hrom, -⟩ := configurationAndSpacesAreOnlyRead s t h
  obtain ⟨hlat, hwin, -⟩ := runningTickFrame s t hb hr h
  exact ⟨hcfg, hrom, hlat, hwin⟩

theorem Busy.kept (h : Busy k s t) : Kept s t := by
  induction h with
  | zero s => exact .refl s
  | tick hb hr hstep _ ih => exact (Kept.step hb hr hstep).trans ih

theorem Busy.inv (h : Busy k s t) (hinv : BlockInv s) : BlockInv t := by
  induction h with
  | zero => exact hinv
  | tick _ _ hstep _ ih => exact ih (stepKeepsTheInvariant _ _ hinv hstep)

/-! ### How far the trace is emitted -/

/-- Of the list `events`, all but what the operation has left is on BUS after `base`. -/
def Emitted (base events : List Event) (s : State) : Prop :=
  ∃ m, m + s.eventsLeft = events.length ∧ s.bus = base ++ events.take m

theorem Emitted.start (h : s.eventsLeft = events.length) : Emitted s.bus events s :=
  ⟨0, by omega, (List.append_nil _).symm⟩

theorem Emitted.beginning (h : Emitted base events s) : ∃ m, s.bus = base ++ events.take m := by
  obtain ⟨m, -, hbus⟩ := h
  exact ⟨m, hbus⟩

theorem Emitted.finished (h : Emitted base events s) (hp : s.ph = .idle) : s.bus = base ++ events := by
  obtain ⟨m, hm, hbus⟩ := h
  have hleft : s.eventsLeft = 0 := by simp [State.eventsLeft, hp]
  rw [hbus, List.take_of_length_le (by omega)]

/-- The event on offer is the next of the list, so a tick that takes it is one event further. -/
theorem Emitted.handshake (h : Emitted base events s) (hinv : BlockInv s) (he : s.offered = .ok (some e))
    (hnext : ∀ m, m + s.eventsLeft = events.length → events[m]? = some e) :
    Emitted base events (s.handshake e) := by
  obtain ⟨m, hm, hbus⟩ := h
  obtain ⟨hb, hpoll⟩ := State.evValid_iff.1 (State.evValid_of_offered he)
  have hcount := hinv.handshake_eventsLeft hb hpoll e
  have hgrow := State.handshake_bus he
  cases hready : s.pins.evReady <;> simp only [hready, Bool.toNat_false, Bool.toNat_true] at hcount
  case false =>
    rw [State.emitted_of_not_ready hready, List.append_nil] at hgrow
    exact ⟨m, by omega, hgrow.trans hbus⟩
  case true =>
    rw [State.emitted_of_ready hready (State.event_eq_some.2 he)] at hgrow
    refine ⟨m + 1, by omega, ?_⟩
    rw [hgrow, hbus, List.take_add_one, hnext m hm, List.append_assoc]
    rfl

/-- A draw that started in `s₀`, and whose list is `events`, is in `s`. -/
structure Drawing (events : List Event) (s₀ s : State) : Prop where
  inv : BlockInv s
  kept : Kept s₀ s
  emitted : Emitted s₀.bus events s

theorem Drawing.start (h : BlockInv s) (hleft : s.eventsLeft = events.length) : Drawing events s s :=
  ⟨h, .refl s, .start hleft⟩

theorem Drawing.tick (h : Drawing events s₀ s) (hr : s.pins.rst = false) (he : s.offered = .ok (some e))
    (hnext : ∀ m, m + s.eventsLeft = events.length → events[m]? = some e) :
    Drawing events s₀ (s.handshake e).endTick := by
  obtain ⟨hb, -⟩ := State.evValid_iff.1 (State.evValid_of_offered he)
  exact ⟨(h.inv.handshake hb e).endTick, h.kept.trans (.step hb hr (step_event hr he)),
    h.emitted.handshake h.inv he hnext⟩

/-! ### The registers of a frame, phase by phase -/

/-- What a framed operation has left in IDX and I when it is in a phase, and in IDLE its response (R156 to R161). -/
def FramePlace (s : State) : Prop :=
  match s.ph with
  | .ptin | .ptl | .win => True
  | .dtm | .pay => s.idx = 6
  | .settle | .ptout => s.idx = 6 ∧ s.i = s.n
  | .idle => s.idx = 6 ∧ s.i = s.n ∧ s.status = .ok ∧ s.rspValid = true
  | _ => False

theorem FramePlace.framed (h : FramePlace s) (hb : s.ph ≠ .idle) : s.ph.framed = true := by
  unfold FramePlace at h
  cases hp : s.ph <;> simp [hp, Phase.framed] at h hb ⊢

theorem FramePlace.advance (h : FramePlace s) (hb : s.ph ≠ .idle) : FramePlace s.advance := by
  unfold FramePlace at h
  unfold State.advance
  cases hp : s.ph <;> simp only [hp] at h
  case idle => exact absurd hp hb
  case ptin => exact trivial
  case ptl => exact trivial
  case win =>
    dsimp only
    split
    · assumption
    · exact trivial
  case dtm =>
    by_cases hn : s.n = 0
    · simp only [if_pos hn]
      exact ⟨h, hn.symm⟩
    · simp only [if_neg hn]
      exact h
  case pay =>
    rcases State.countByte_cases (s := s) .settle with ⟨hlast, heq⟩ | ⟨-, heq⟩ <;> simp only [heq]
    · exact ⟨h, hlast⟩
    · simp only [FramePlace, hp, h]
  case settle => exact h
  case ptout =>
    obtain ⟨hidx, hi⟩ := h
    exact ⟨hidx, hi, rfl, rfl⟩

theorem FramePlace.handshake (h : FramePlace s) (hb : s.ph ≠ .idle) (e : Event) : FramePlace (s.handshake e) := by
  rcases State.handshake_cases (s := s) e with ⟨-, heq⟩ | ⟨-, heq⟩ <;> rw [heq]
  · exact FramePlace.advance (s := s.taken e) h hb
  · rw [State.stall_eq]
    exact h

/-- Of `Frame(P, N)` the event on offer is the one at the operation's position (R140, R155 to R161). -/
theorem BlockInv.offered_frame (h : BlockInv s) (hp : s.ph.framed = true)
    (hbyte : s.ph = .pay → s.offered = .ok (some (.data (p s.i.toNat)))) (he : s.offered = .ok (some e))
    {m : Nat} (hm : m + s.eventsLeft = s.n.toNat + 12) : (frame s.cfg s.win p s.n.toNat)[m]? = some e := by
  cases hph : s.ph <;> simp only [hph, Phase.framed, Bool.false_eq_true, State.eventsLeft] at hp hm
  case win =>
    have hidx := h.win_idx hph
    obtain ⟨b, hb⟩ := windowByte_ok s.cfg s.win hidx
    obtain rfl : Event.data b = e := by simpa [State.offered, hph, hb] using he
    obtain rfl : m = 2 + s.idx.toNat := by omega
    rw [frame_window (Nat.lt_succ_of_le hidx), hb]
    rfl
  case pay =>
    have hi := h.pay_index hph
    obtain rfl : Event.data (p s.i.toNat) = e := by simpa [hbyte hph] using he
    obtain rfl : m = 10 + s.i.toNat := by omega
    exact frame_payload hi
  all_goals
    simp only [State.offered, hph, Except.ok.injEq, Option.some.injEq] at he
    subst he
  case ptin =>
    obtain rfl : m = 0 := by omega
    rfl
  case ptl =>
    obtain rfl : m = 1 := by omega
    rfl
  case dtm =>
    obtain rfl : m = 9 := by omega
    rfl
  case settle =>
    obtain rfl : m = 10 + s.n.toNat := by omega
    exact frame_settle
  case ptout =>
    obtain rfl : m = 10 + (s.n.toNat + 1) := by omega
    exact frame_ptout

/-! ### A frame, from its start to its end -/

/-- The byte held in PAY is the payload's (R159). -/
def HoldsByteOf (p : Nat → Byte) (s : State) : Prop := ∀ b, s.held = some b → b = p s.i.toNat

/-- The bytes read in the coming `k` ticks of the operation are `p`'s. -/
def Supplies (p : Nat → Byte) (k : Nat) (s : State) : Prop :=
  ∀ j < k, ∀ u, Busy j s u → u.ph = .pay → u.payloadByte = .ok (p u.i.toNat)

/-- A framed operation that started in `s₀` is in `s`. -/
structure Framing (p : Nat → Byte) (s₀ s : State) : Prop extends
    Drawing (frame s₀.cfg s₀.win p s₀.n.toNat) s₀ s where
  len : s.n = s₀.n
  place : FramePlace s
  holds : HoldsByteOf p s

theorem Framing.start (h : BlockInv s) (hp : s.ph = .ptin) : Framing p s s where
  toDrawing := .start h (by rw [frame_length]; simp [State.eventsLeft, hp])
  len := rfl
  place := by simp [FramePlace, hp]
  holds b hb := by simp [h.held_none (by simp [hp])] at hb

theorem HoldsByteOf.offered (h : HoldsByteOf p s) (hp : s.ph = .pay) (hbyte : s.payloadByte = .ok (p s.i.toNat)) :
    s.offered = .ok (some (.data (p s.i.toNat))) := by
  cases hheld : s.held with
  | none => simp [State.offered, hp, hheld, hbyte, Except.map]
  | some b => rw [State.offered_held hp hheld, h b hheld]

theorem HoldsByteOf.handshake (h : HoldsByteOf p s) (he : s.offered = .ok (some e))
    (hoff : s.ph = .pay → s.offered = .ok (some (.data (p s.i.toNat)))) : HoldsByteOf p (s.handshake e) := by
  rcases State.handshake_cases (s := s) e with ⟨-, heq⟩ | ⟨-, heq⟩ <;> rw [heq]
  · intro b hb
    simp at hb
  · by_cases hp : s.ph = .pay
    · obtain rfl : Event.data (p s.i.toNat) = e := by simpa [hoff hp] using he
      rw [State.stall_pay hp]
      intro b hb
      exact (Option.some.inj hb).symm
    · rwa [State.stall_other hp]

theorem Framing.step (h : Framing p s₀ s) (hb : s.ph ≠ .idle) (hr : s.pins.rst = false)
    (hbyte : s.ph = .pay → s.payloadByte = .ok (p s.i.toNat)) (hstep : Machine.step s = .next t) :
    Framing p s₀ t := by
  have hframed := h.place.framed hb
  have hoff (hp : s.ph = .pay) := h.holds.offered hp (hbyte hp)
  obtain ⟨e, he⟩ := h.inv.offered_ok hb (fun hp => by simp [hp, Phase.framed] at hframed)
  obtain rfl : (s.handshake e).endTick = t := by simpa [step_event hr he] using hstep
  have hnext (m : Nat) (hm : m + s.eventsLeft = (frame s₀.cfg s₀.win p s₀.n.toNat).length) :
      (frame s₀.cfg s₀.win p s₀.n.toNat)[m]? = some e := by
    rw [frame_length, ← h.len] at hm
    rw [← h.kept.cfg, ← h.kept.win, ← h.len]
    exact h.inv.offered_frame hframed hoff he hm
  exact {
    toDrawing := h.tick hr he hnext
    len := (State.handshake_n hframed).trans h.len
    place := h.place.handshake hb e
    holds := h.holds.handshake he hoff }

theorem Framing.busy (h : Framing p s₀ s) (hsup : Supplies p k s) (hb : Busy k s t) : Framing p s₀ t := by
  induction hb with
  | zero => exact h
  | tick hbusy hr hstep _ ih =>
    exact ih (h.step hbusy hr (hsup 0 (Nat.succ_pos _) _ (.zero _)) hstep)
      fun j hj u hu => hsup (j + 1) (Nat.succ_lt_succ hj) u (.tick hbusy hr hstep hu)

/-- GLYPH in PAY: I is one of the seventeen places. -/
theorem BlockInv.glyph_index_lt (h : BlockInv s) (hp : s.ph = .pay) (hop : s.lat.op = 4) : s.i.toNat < 17 := by
  have hi := h.pay_index hp
  rcases h.framed_pay hp with ⟨hop', -⟩ | ⟨hop', -⟩ | ⟨-, -, -, -, hn⟩
  · simp [hop] at hop'
  · simp [hop] at hop'
  · exact hi.trans_eq hn

/-! ### A draw with a ready collaborator -/

theorem State.readyTicks_of_takes (h : s.Takes k) : s.readyTicks k = k := by
  unfold State.readyTicks
  rw [List.filter_eq_self.2 fun j hj => h j (List.mem_range.1 hj), List.length_range]

/-- A tick uses up one event at most. -/
theorem BlockInv.eventsLeft_step (h : BlockInv s) (hb : s.ph ≠ .idle) (hr : s.pins.rst = false)
    (hstep : Machine.step s = .next t) : s.eventsLeft ≤ t.eventsLeft + 1 := by
  by_cases hpoll : s.ph = .poll
  · simp [State.eventsLeft, hpoll]
  · obtain ⟨e, he⟩ := h.offered_ok hb hpoll
    obtain rfl : (s.handshake e).endTick = t := by simpa [step_event hr he] using hstep
    have hcount := h.handshake_eventsLeft hb hpoll e
    have hready := s.pins.evReady.toNat_le
    change s.eventsLeft ≤ (s.handshake e).eventsLeft + 1
    omega

theorem Busy.eventsLeft_le (h : Busy k s t) (hinv : BlockInv s) : s.eventsLeft ≤ t.eventsLeft + k := by
  induction h with
  | zero => exact Nat.le_refl _
  | tick hb hr hstep _ ih =>
    have hone := hinv.eventsLeft_step hb hr hstep
    have hrest := ih (stepKeepsTheInvariant _ _ hinv hstep)
    omega

/-- Where every event is taken at once, a draw ends after one tick for each (R67). -/
theorem BlockInv.ends_when_all_taken (h : BlockInv s) (hb : s.ph ≠ .idle) (hpoll : s.ph ≠ .poll)
    (hleft : s.eventsLeft = k) (hr : s.NoReset k) (htakes : s.Takes k) : ∃ t, Busy k s t ∧ t.ph = .idle := by
  have hfair : s.eventsLeft ≤ s.readyTicks k := by rw [State.readyTicks_of_takes htakes, hleft]
  obtain ⟨j, t, hj, hbusy, hp, -⟩ := drawEndsUnderAFairCollaborator s k h hb hpoll hr hfair
  have hall := hbusy.eventsLeft_le h
  have hend : t.eventsLeft = 0 := by simp [State.eventsLeft, hp]
  obtain rfl : j = k := by omega
  exact ⟨t, hbusy, hp⟩

/-! ### FILL, RAWBUF and GLYPH -/

/-- The tick after the acceptance of a framed request: its window, `n` payload bytes, PTIN. -/
def frameStart (s : State) (o : Operands) (w : WindowRect) (n : Nat) : State :=
  (((s.latch o).setWindow w).startFrame n).endTick

/-- What an operation with a window has left when it returns to IDLE with its list of events emitted (R29, R37). -/
def AnsweredFrame (s t : State) (o : Operands) (w : WindowRect) (events : List Event) (n : Nat) : Prop :=
  t.bus = s.bus ++ events ∧ t.status = .ok ∧ t.rspValid = true ∧ t.lat = o ∧ t.win = w ∧
  t.n.toNat = n ∧ t.i = t.n ∧ t.idx = 6 ∧ t.rspCode = 0 ∧ t.rspWin = some (packWindowBytes s.cfg w)

theorem Framing.answered {o : Operands} {w : WindowRect} (h : Framing p (frameStart s o w n) t)
    (hemit : Emitted s.bus events t) (hn : n < 2 ^ 16) (hlo : 1 ≤ o.op.toNat) (hhi : o.op.toNat ≤ 4)
    (hp : t.ph = .idle) : AnsweredFrame s t o w events n := by
  have hplace := h.place
  simp only [FramePlace, hp] at hplace
  obtain ⟨hidx, hi, hok, hvalid⟩ := hplace
  obtain ⟨hcfg, -, hlat, hwin⟩ := h.kept
  have hlat : t.lat = o := hlat
  have hlen : t.n.toNat = n := h.len ▸ Nat.mod_eq_of_lt hn
  have hcode : t.rspCode = 0 := by rw [State.rspCode, hok, Code.toBits]
  have hport : t.rspWin = some (packWindowBytes s.cfg w) := by
    rw [State.rspWin_eq_some hvalid hok (hlat ▸ hlo) (hlat ▸ hhi), hcfg, hwin]
    rfl
  exact ⟨hemit.finished hp, hok, hvalid, hlat, hwin, hlen, hi, hidx, hcode, hport⟩

/-- The four framed forms alike: what is emitted at every moment and at the end. -/
theorem frame_emits {o : Operands} {w : WindowRect} (h : BlockInv (frameStart s o w n)) (hn : n < 2 ^ 16)
    (hlo : 1 ≤ o.op.toNat) (hhi : o.op.toNat ≤ 4) (hsup : Supplies p k (frameStart s o w n))
    (hb : Busy k (frameStart s o w n) t) :
    (∃ m, t.bus = s.bus ++ (frame s.cfg w p n).take m) ∧
    (t.ph = .idle → AnsweredFrame s t o w (frame s.cfg w p n) n) := by
  have hlen : (frameStart s o w n).n.toNat = n := Nat.mod_eq_of_lt hn
  have hrun := (Framing.start h rfl).busy hsup hb
  have hemit : Emitted s.bus (frame s.cfg w p n) t := hlen ▸ hrun.emitted
  exact ⟨hemit.beginning, hrun.answered hemit hn hlo hhi⟩

theorem frame_ends {o : Operands} {w : WindowRect} (h : BlockInv (frameStart s o w n)) (hn : n < 2 ^ 16)
    (hr : (frameStart s o w n).NoReset (n + 12)) (htakes : (frameStart s o w n).Takes (n + 12)) :
    ∃ t, Busy (n + 12) (frameStart s o w n) t ∧ t.ph = .idle :=
  h.ends_when_all_taken nofun nofun (congrArg (· + 12) (Nat.mod_eq_of_lt hn)) hr htakes

/-! The bytes each of them supplies -/

theorem State.payloadByte_fill (hi : s.i.toNat < s.n.toNat) (hop : s.lat.op = 2) : s.payloadByte = .ok s.lat.arg := by
  rw [State.payloadByte, if_pos hi, hop]
  rfl

theorem State.payloadByte_rawbuf (hi : s.i.toNat < s.n.toNat) (hop : s.lat.op = 3) :
    s.payloadByte = .ok (s.rawPayload s.i.toNat) := by
  rw [State.payloadByte, if_pos hi, hop]
  rfl

theorem State.payloadByte_glyph (hi : s.i.toNat < s.n.toNat) (hop : s.lat.op = 4) :
    s.payloadByte = s.glyphPayload s.i.toNat := by
  rw [State.payloadByte, if_pos hi, hop]
  rfl

theorem BlockInv.supplies_fill (h : BlockInv s) (hop : s.lat.op = 2) : Supplies (fun _ => s.lat.arg) k s := by
  intro j _ u hu hp
  have hlat := hu.kept.lat
  rw [State.payloadByte_fill ((hu.inv h).pay_index hp) (hlat ▸ hop), hlat]

theorem BlockInv.supplies_zeros (h : BlockInv s) (hop : s.lat.op = 3) (hpresent : s.lat.present = false) :
    Supplies (fun _ => 0x00) k s := by
  intro j _ u hu hp
  have hlat := hu.kept.lat
  rw [State.payloadByte_rawbuf ((hu.inv h).pay_index hp) (hlat ▸ hop), State.rawPayload, hlat, hpresent]
  rfl

theorem BlockInv.supplies_glyph (h : BlockInv s) (hop : s.lat.op = 4) :
    Supplies
      (fun j => (glyphPayloadBytes (fun k => s.glyphByte (s.lat.arg.toNat - 32) k) s.lat.color).getD j 0) k s := by
  intro j _ u hu hp
  obtain ⟨hcfg, hrom, hlat, -⟩ := hu.kept
  have hinv := hu.inv h
  have hi := hinv.pay_index hp
  have hop' : u.lat.op = 4 := hlat ▸ hop
  rw [State.payloadByte_glyph hi hop', State.glyphPayload_eq (hinv.glyph_code hp hop') (hinv.glyph_index_lt hp hop'),
    hlat]
  simp only [State.glyphByte, hrom]

/-! The caller's buffer while RAWBUF runs (R256) -/

theorem State.bufferAt_nextTick (s : State) (j : Nat) : s.nextTick.bufferAt j = s.bufferAt (j + 1) := by
  simp only [State.bufferAt, State.nextTick_script, State.nextTick_tick, List.getElem?_tail, Nat.add_assoc,
    Nat.add_comm 1]

theorem State.KeepsBuffer.nextTick (h : s.KeepsBuffer (k + 1)) :
    s.nextTick.pixbuf = s.pixbuf ∧ s.nextTick.KeepsBuffer k :=
  ⟨State.nextTick_pixbuf_kept (h 0 (Nat.succ_pos k)),
    fun j hj => (s.bufferAt_nextTick j).trans (h (j + 1) (Nat.succ_lt_succ hj))⟩

theorem WorldKept.keepsBuffer (h : WorldKept s u) (hkeep : s.KeepsBuffer k) : u.KeepsBuffer k := by
  intro j hj
  have hsame : u.bufferAt j = s.bufferAt j := by simp only [State.bufferAt, h.script, h.tick]
  exact hsame.trans (hkeep j hj)

theorem State.KeepsBuffer.step (h : s.KeepsBuffer (k + 1)) (hstep : Machine.step s = .next t) :
    t.pixbuf = s.pixbuf ∧ t.KeepsBuffer k := by
  obtain ⟨u, hu, rfl⟩ := step_world hstep
  obtain ⟨hpix, hkeep⟩ := (hu.keepsBuffer h).nextTick
  exact ⟨hpix.trans hu.pixbuf, hkeep⟩

theorem Busy.pixbuf (h : Busy k s t) (hkeep : s.KeepsBuffer k) : t.pixbuf = s.pixbuf := by
  induction h with
  | zero => rfl
  | tick _ _ hstep _ ih =>
    obtain ⟨hpix, hkeep⟩ := hkeep.step hstep
    exact (ih hkeep).trans hpix

theorem State.KeepsBuffer.mono (h : s.KeepsBuffer k) {j : Nat} (hj : j ≤ k) : s.KeepsBuffer j :=
  fun m hm => h m (hm.trans_le hj)

theorem BlockInv.supplies_buffer (h : BlockInv s) (hop : s.lat.op = 3) (hpresent : s.lat.present = true)
    (hkeep : s.KeepsBuffer k) (hbuf : ∀ j < rawLength s.lat.w s.lat.h, Memory.read s.pixbuf j = some (p j)) :
    Supplies p k s := by
  intro j hj u hu hp
  have hlat := hu.kept.lat
  have hop' : u.lat.op = 3 := hlat ▸ hop
  have hinv := hu.inv h
  have hi := hinv.pay_index hp
  have hread := hbuf u.i.toNat (hlat ▸ hi.trans_eq (hinv.rawbuf_length hp hop'))
  rw [State.payloadByte_rawbuf hi hop', State.rawPayload, hlat, hpresent, State.bufRead, hu.pixbuf (hkeep.mono hj.le),
    hread]
  rfl

/-! ### The four framed forms -/

/-- Settles O25: the payload byte is the latched one, in every tick. -/
theorem fillEmitsItsTrace : Obligations.FillEmitsItsTrace := by
  intro s x y w h v present color hinv hp hready hg
  have hex := exec_start (i := .fill x y w h v present color) hp ((checkFill_none_iff _).2 ⟨hready, hg⟩)
  have hstart := (hinv.exec hp _ hex).endTick
  have hn := fillLength_lt hinv.cfg_legal hg
  exact ⟨_, hex, rfl,
    fun k t => frame_emits hstart hn (Nat.le_add_left 1 1) (Nat.le_add_right 2 2) (hstart.supplies_fill rfl),
    frame_ends hstart hn⟩

/-- Settles O27: with PRESENT = 0 no byte is read from PIXBUF. -/
theorem rawbufAbsentEmitsZeros : Obligations.RawbufAbsentEmitsZeros := by
  intro s x y w h arg color hinv hp hready hg
  have hex := exec_start (i := .rawbuf x y w h false arg color) hp ((checkRawbuf_none_iff _).2 ⟨hready, hg⟩)
  have hstart := (hinv.exec hp _ hex).endTick
  have hn := rawLength_lt hinv.cfg_legal hg
  exact ⟨_, hex, rfl,
    fun k t => frame_emits hstart hn (Nat.le_add_left 1 2) (Nat.le_add_right 3 1) (hstart.supplies_zeros rfl rfl),
    frame_ends hstart hn⟩

/-- Settles O26: the buffer is the caller's of the tick of acceptance in each tick that reads it. -/
theorem rawbufEmitsTheBuffer : Obligations.RawbufEmitsTheBuffer := by
  intro s x y w h arg color buf hinv hp hready hg hbuf
  have hex := exec_start (i := .rawbuf x y w h true arg color) hp ((checkRawbuf_none_iff _).2 ⟨hready, hg⟩)
  have hstart := (hinv.exec hp _ hex).endTick
  have hn := rawLength_lt hinv.cfg_legal hg
  refine ⟨_, hex, rfl, fun k t hkeep => ?_, frame_ends hstart hn⟩
  have hworld : WorldKept s (startRawbuf (s.latch (Instr.rawbuf x y w h true arg color).operands)).shiftSync :=
    ⟨rfl, rfl, rfl, rfl, rfl⟩
  obtain ⟨hpix, hkeep'⟩ := (hworld.keepsBuffer hkeep).nextTick
  exact frame_emits hstart hn (Nat.le_add_left 1 2) (Nat.le_add_right 3 1)
    (hstart.supplies_buffer rfl rfl hkeep' fun j hj => (congrArg (Memory.read · j) hpix).trans (hbuf j hj))

/-- Settles O28: the stored rows are in GLYPHROM, which no tick changes. -/
theorem glyphEmitsItsTrace : Obligations.GlyphEmitsItsTrace := by
  intro s x y code color w h present hinv hp hready hcode hg
  have hex := exec_start (i := .glyph x y code color w h present) hp ((checkGlyph_none_iff _).2 ⟨hready, hcode, hg⟩)
  have hstart := (hinv.exec hp _ hex).endTick
  refine ⟨_, hex, rfl, fun k t hb => ?_, frame_ends hstart (by decide)⟩
  obtain ⟨hbegin, hend⟩ :=
    frame_emits hstart (by decide) (Nat.le_add_left 1 3) (Nat.le_refl 4) (hstart.supplies_glyph rfl) hb
  refine ⟨hbegin, fun hp => ?_⟩
  obtain ⟨hbus, hok, hvalid, hlat, hwin, hlen, hi, hrest⟩ := hend hp
  have hn : t.n = 17 := BitVec.eq_of_toNat_eq hlen
  exact ⟨hbus, hok, hvalid, hlat, hwin, hn, hi.trans hn, hrest⟩

end Sys2Proof.Machine

/-! ## PROOFS. The trace of CLEAR (R152, R163 to R169) -/

namespace Sys2Proof.Machine

variable {s s₀ t : State} {e : Event} {c : Config} {b : Byte} {k : Nat}

/-! ### The list of R152: two transfers of one form -/

/-- One full-frame transfer: its command, PANEL_BYTES bytes 0xFF, the delay. -/
def clearTransfer (c : Config) (b : Byte) : List Event :=
  .cmd b :: (List.replicate c.panelBytes (.data 0xFF) ++ [.delay c.tSettle])

theorem clearTransfer_length : (clearTransfer c b).length = c.panelBytes + 2 := by simp [clearTransfer]

theorem clearTransfer_data {i : Nat} (hi : i < c.panelBytes) : (clearTransfer c b)[i + 1]? = some (.data 0xFF) := by
  simp [clearTransfer, List.getElem?_append_left, hi]

theorem clearTransfer_delay : (clearTransfer c b)[c.panelBytes + 1]? = some (.delay c.tSettle) := by
  simp [clearTransfer]

theorem clearTrace_eq (c : Config) : clearTrace c = clearTransfer c c.opDtm1 ++ clearTransfer c c.opDtm2 := by
  simp [clearTrace, clearTransfer]

theorem clearTrace_length : (clearTrace c).length = 2 * c.panelBytes + 4 := by
  rw [clearTrace_eq, List.length_append, clearTransfer_length, clearTransfer_length]
  omega

theorem clearTrace_first {j : Nat} (hj : j < c.panelBytes + 2) :
    (clearTrace c)[j]? = (clearTransfer c c.opDtm1)[j]? := by
  rw [clearTrace_eq, List.getElem?_append_left (clearTransfer_length ▸ hj)]

theorem clearTrace_second (j : Nat) :
    (clearTrace c)[c.panelBytes + 2 + j]? = (clearTransfer c c.opDtm2)[j]? := by
  rw [clearTrace_eq, ← clearTransfer_length (b := c.opDtm1), List.getElem?_append_right (Nat.le_add_right _ j),
    Nat.add_sub_cancel_left]

/-! ### The registers of CLEAR, phase by phase -/

/-- What CLEAR has left in N and I when it is in a phase, and in IDLE its response (R165 to R168). -/
def ClearPlace (s : State) : Prop :=
  match s.ph with
  | .c1cmd | .c1data | .c1dly | .c2cmd | .c2data => True
  | .c2dly => s.n.toNat = s.cfg.panelBytes ∧ s.i = s.n
  | .idle => s.n.toNat = s.cfg.panelBytes ∧ s.i = s.n ∧ s.status = .ok ∧ s.rspValid = true
  | _ => False

theorem ClearPlace.clearing (h : ClearPlace s) (hb : s.ph ≠ .idle) : s.ph.clearing = true := by
  unfold ClearPlace at h
  cases hp : s.ph <;> simp [hp, Phase.clearing] at h hb ⊢

theorem Phase.not_framed_of_clearing {q : Phase} (h : q.clearing = true) : q.framed = false := by
  cases q <;> simp_all [Phase.framed, Phase.clearing]

theorem ClearPlace.advance (h : ClearPlace s) (hinv : BlockInv s) (hb : s.ph ≠ .idle) : ClearPlace s.advance := by
  unfold ClearPlace at h
  unfold State.advance
  cases hp : s.ph <;> simp only [hp] at h
  case idle => exact absurd hp hb
  case c1cmd => exact trivial
  case c1data =>
    rcases State.countByte_cases (s := s) .c1dly with ⟨-, heq⟩ | ⟨-, heq⟩ <;> simp only [heq]
    · exact trivial
    · simp only [ClearPlace, hp]
  case c1dly => exact trivial
  case c2cmd => exact trivial
  case c2data =>
    obtain ⟨hn, -⟩ := hinv.clear_index (.inr hp)
    rcases State.countByte_cases (s := s) .c2dly with ⟨hlast, heq⟩ | ⟨-, heq⟩ <;> simp only [heq]
    · exact ⟨hn, hlast⟩
    · simp only [ClearPlace, hp]
  case c2dly =>
    obtain ⟨hn, hi⟩ := h
    exact ⟨hn, hi, rfl, rfl⟩

theorem ClearPlace.handshake (h : ClearPlace s) (hinv : BlockInv s) (hb : s.ph ≠ .idle) (e : Event) :
    ClearPlace (s.handshake e) := by
  rcases State.handshake_cases (s := s) e with ⟨-, heq⟩ | ⟨-, heq⟩ <;> rw [heq]
  · exact ClearPlace.advance (s := s.taken e) h (hinv.taken e) hb
  · rw [State.stall_eq]
    exact h

/-- Of R152's list the event on offer is the one at the operation's position (R163 to R168). -/
theorem BlockInv.offered_clear (h : BlockInv s) (hp : s.ph.clearing = true) (he : s.offered = .ok (some e))
    {m : Nat} (hm : m + s.eventsLeft = 2 * s.cfg.panelBytes + 4) : (clearTrace s.cfg)[m]? = some e := by
  cases hph : s.ph <;> simp only [hph, Phase.clearing, Bool.false_eq_true, State.eventsLeft] at hp hm <;>
    simp only [State.offered, hph, Except.ok.injEq, Option.some.injEq] at he <;> subst he
  case c1cmd =>
    obtain rfl : m = 0 := by omega
    rfl
  case c1data =>
    obtain ⟨hn, hi⟩ := h.clear_index (.inl hph)
    obtain rfl : m = s.i.toNat + 1 := by omega
    rw [clearTrace_first (by omega), clearTransfer_data (by omega)]
  case c1dly =>
    obtain rfl : m = s.cfg.panelBytes + 1 := by omega
    rw [clearTrace_first (by omega), clearTransfer_delay]
  case c2cmd =>
    obtain rfl : m = s.cfg.panelBytes + 2 + 0 := by omega
    rw [clearTrace_second]
    rfl
  case c2data =>
    obtain ⟨hn, hi⟩ := h.clear_index (.inr hph)
    obtain rfl : m = s.cfg.panelBytes + 2 + (s.i.toNat + 1) := by omega
    rw [clearTrace_second, clearTransfer_data (by omega)]
  case c2dly =>
    obtain rfl : m = s.cfg.panelBytes + 2 + (s.cfg.panelBytes + 1) := by omega
    rw [clearTrace_second, clearTransfer_delay]

/-! ### CLEAR, from its start to its end -/

/-- A CLEAR that started in `s₀` is in `s`. -/
structure Clearing (s₀ s : State) : Prop extends Drawing (clearTrace s₀.cfg) s₀ s where
  idx : s.idx = s₀.idx
  place : ClearPlace s

theorem Clearing.start (h : BlockInv s) (hp : s.ph = .c1cmd) : Clearing s s where
  toDrawing := .start h (by rw [clearTrace_length]; simp [State.eventsLeft, hp])
  idx := rfl
  place := by simp [ClearPlace, hp]

theorem Clearing.step (h : Clearing s₀ s) (hb : s.ph ≠ .idle) (hr : s.pins.rst = false)
    (hstep : Machine.step s = .next t) : Clearing s₀ t := by
  have hclearing := h.place.clearing hb
  obtain ⟨e, he⟩ := h.inv.offered_ok hb (fun hp => by simp [hp, Phase.clearing] at hclearing)
  obtain rfl : (s.handshake e).endTick = t := by simpa [step_event hr he] using hstep
  have hnext (m : Nat) (hm : m + s.eventsLeft = (clearTrace s₀.cfg).length) : (clearTrace s₀.cfg)[m]? = some e := by
    rw [clearTrace_length, ← h.kept.cfg] at hm
    rw [← h.kept.cfg]
    exact h.inv.offered_clear hclearing he hm
  exact {
    toDrawing := h.tick hr he hnext
    idx := (State.handshake_idx (Phase.not_framed_of_clearing hclearing)).trans h.idx
    place := ClearPlace.handshake h.place h.inv hb e }

theorem Clearing.busy (h : Clearing s₀ s) (hb : Busy k s t) : Clearing s₀ t := by
  induction hb with
  | zero => exact h
  | tick hbusy hr hstep _ ih => exact ih (h.step hbusy hr hstep)

/-- Settles O29: each taken event is the next of R152's list, and no tick of CLEAR writes IDX or the window. -/
theorem clearEmitsItsTrace : Obligations.ClearEmitsItsTrace := by
  intro s x y w h arg present color hinv hp hready
  have hex := exec_start (i := .clear x y w h arg present color) hp ((checkClear_none_iff _).2 hready)
  have hstart := (hinv.exec hp _ hex).endTick
  refine ⟨_, hex, rfl, fun k t hb => ?_, hstart.ends_when_all_taken nofun nofun rfl⟩
  obtain ⟨⟨-, ⟨hcfg, -, -, hwin⟩, hemit⟩, hidx, hplace⟩ := (Clearing.start hstart rfl).busy hb
  refine ⟨hemit.beginning, fun hp => ?_⟩
  simp only [ClearPlace, hp] at hplace
  obtain ⟨hn, hi, hok, hvalid⟩ := hplace
  have hcode : t.rspCode = 0 := by rw [State.rspCode, hok, Code.toBits]
  exact ⟨hemit.finished hp, hok, hvalid, hn.trans (congrArg Config.panelBytes hcfg), hi, hwin, hidx, hcode⟩

end Sys2Proof.Machine

/-! ## PROOFS. The busy gate: the synchronizer's shift, the poll, and WAITREADY to its end (R181 to R188) -/

namespace Sys2Proof.Machine

variable {s t u : State} {c : Code} {j k : Nat}

/-! ### The inputs of the synchronizer through a tick -/

/-- What the block leaves alone in a tick until the synchronizer shifts. -/
structure SyncKept (s u : State) : Prop where
  pins : u.pins = s.pins
  sync0 : u.sync0 = s.sync0

theorem SyncKept.runTick (h : s.runTick = .next u) : SyncKept s u := by
  rcases State.runTick_cases h with ⟨-, rfl⟩ | ⟨-, rfl⟩ | ⟨e, -, -, -, rfl⟩
  · exact ⟨rfl, rfl⟩
  · rw [State.poll_frame]
    exact ⟨rfl, rfl⟩
  · rw [State.handshake_frame]
    exact ⟨rfl, rfl⟩

theorem SyncKept.exec {i : Instr} (hp : s.ph = .idle) (h : Machine.exec i s = .next u) : SyncKept s u := by
  rcases exec_idle_cases hp h with ⟨_, rfl⟩ | ⟨_, rfl⟩ | ⟨_, _, rfl⟩ | rfl | rfl <;> exact ⟨rfl, rfl⟩

/-- Every tick without reset ends with the shift, on inputs the block has left alone (R31). -/
theorem step_shifts (hr : s.pins.rst = false) (h : step s = .next t) : ∃ u, SyncKept s u ∧ t = u.endTick := by
  rcases step_cases h with ⟨hrst, -⟩ | ⟨-, -, u, hu, rfl⟩ | ⟨-, -, -, rfl⟩ |
    ⟨-, hp, -, ⟨i, u, -, hu, rfl⟩ | ⟨r, -, rfl⟩⟩
  · simp [hr] at hrst
  · exact ⟨u, .runTick hu, rfl⟩
  · exact ⟨s, ⟨rfl, rfl⟩, rfl⟩
  · exact ⟨u, .exec hp hu, rfl⟩
  · exact ⟨(s.latch _).respond .invalidOp, ⟨rfl, rfl⟩, rfl⟩

theorem step_sync (hr : s.pins.rst = false) (h : step s = .next t) :
    t.sync1 = s.sync0 ∧ t.sync0 = s.pins.rdyLine := by
  obtain ⟨u, hu, rfl⟩ := step_shifts hr h
  exact ⟨hu.sync0, congrArg Pins.rdyLine hu.pins⟩

/-! ### The world and the synchronized value, seen from the next tick -/

theorem State.pinsAt_nextTick (s : State) (j : Nat) : s.nextTick.pinsAt j = s.pinsAt (j + 1) :=
  s.pinsAt_endTick j

theorem step_pinsAt (h : step s = .next t) (j : Nat) : t.pinsAt j = s.pinsAt (j + 1) := by
  obtain ⟨u, hu, rfl⟩ := step_world h
  exact (u.pinsAt_nextTick j).trans (hu.pinsAt j)

theorem State.NoReset.now (h : s.NoReset (k + 1)) : s.pins.rst = false := h 0 (Nat.succ_pos k)

theorem State.NoReset.step (h : s.NoReset (k + 1)) (hstep : Machine.step s = .next t) : t.NoReset k :=
  fun j hj => step_pinsAt hstep j ▸ h (j + 1) (Nat.succ_lt_succ hj)

/-- The value a poll reads `j + 1` ticks from now is the one it reads `j` ticks from the next tick (R181, R182). -/
theorem step_syncAt (hr : s.pins.rst = false) (h : step s = .next t) (j : Nat) : t.syncAt j = s.syncAt (j + 1) := by
  obtain ⟨hsync1, hsync0⟩ := step_sync hr h
  match j with
  | 0 => exact hsync1
  | 1 => exact hsync0
  | j + 2 => exact congrArg Pins.rdyLine (step_pinsAt h j)

theorem step_reset (hr : s.pins.rst = true) : step s = .next s.resetTick := if_pos hr

theorem step_reset_sync (hr : s.pins.rst = true) (h : step s = .next t) : t.sync1 = false ∧ t.sync0 = false := by
  obtain rfl : s.resetTick = t := Host.Outcome.next.inj ((step_reset hr).symm.trans h)
  exact ⟨rfl, rfl⟩

/-- Settles O34: two ticks bring the line to `SYNC[1]`; after a reset both flops are 0, and a tick moves `SYNC[0]` up or
resets again. -/
theorem synchronizedValueIsTwoTicksOld : Obligations.SynchronizedValueIsTwoTicksOld := by
  refine ⟨fun s t hr hrun => ?_, fun s t u hr hst htu => ?_⟩
  · cases hrun with | tick hsu hrest =>
    cases hrest with | tick hut hend =>
    cases hend
    exact (step_syncAt (hr.step hsu).now hut 0).trans (step_syncAt hr.now hsu 1)
  · obtain ⟨hsync1, hsync0⟩ := step_reset_sync hr hst
    refine ⟨hsync1, ?_⟩
    cases hrt : t.pins.rst with
    | true => exact (step_reset_sync hrt htu).1
    | false => exact (step_sync hrt htu).1.trans hsync0

/-! ### The poll -/

theorem State.poll_ready (h : s.sync1 = true) : s.poll = s.respond .ok := if_pos h

theorem State.poll_expired (h : s.sync1 = false) (he : s.elapsed = s.lat.tmo) : s.poll = s.respond .deviceTimeout := by
  simp [State.poll, h, he]

theorem State.poll_counts (h : s.sync1 = false) (he : s.elapsed ≠ s.lat.tmo) :
    s.poll = { s with elapsed := s.elapsed + 1 } := by
  simp [State.poll, h, he]

/-- Each tick of POLL without reset makes one poll (R186). -/
theorem step_poll (hp : s.ph = .poll) (hr : s.pins.rst = false) : step s = .next s.poll.endTick := by
  rw [step_busy (by simp [hp]) hr, State.runTick_poll hp]
  rfl

/-- Settles O32: the three outcomes of a poll. -/
theorem eachPollTickMakesOnePoll : Obligations.EachPollTickMakesOnePoll := by
  intro s hp hr
  rw [step_poll hp hr]
  refine ⟨fun h => ?_, fun h he => ?_, fun h he => ?_⟩
  · rw [State.poll_ready h]
    rfl
  · rw [State.poll_expired h he]
    rfl
  · rw [State.poll_counts h he]

theorem State.poll_answers_ok_iff (hp : s.ph = .poll) : s.poll.ph = .idle ∧ s.poll.status = .ok ↔ s.sync1 = true := by
  rcases s.poll_cases with ⟨h, heq⟩ | ⟨h, -, heq⟩ | ⟨h, -, heq⟩ <;> simp [h, heq, hp]

/-- Settles O33: the shift is every tick's end; of a poll's three outcomes the ready one alone is OK. -/
theorem synchronizerShiftsEveryTick : Obligations.SynchronizerShiftsEveryTick := by
  intro s t hr h
  obtain ⟨hsync1, hsync0⟩ := step_sync hr h
  refine ⟨hsync1, hsync0, fun hp => ?_⟩
  obtain rfl : s.poll.endTick = t := Host.Outcome.next.inj ((step_poll hp hr).symm.trans h)
  exact State.poll_answers_ok_iff hp

/-! ### WAITREADY, from its start to its end -/

/-- Settles O20: no check fails, and the two halves of the timeout lie in X and Y. -/
theorem waitreadyStarts : Obligations.WaitreadyStarts := by
  intro s timeout w h arg present color hp
  have hlow : timeout.extractLsb' 0 16 = timeout.setWidth 16 := (BitVec.setWidth_eq_extractLsb' (by decide)).symm
  have hhigh : timeout.extractLsb' 16 16 = (timeout >>> 16).setWidth 16 :=
    BitVec.setWidth_ushiftRight_eq_extractLsb.symm
  rw [← hlow, ← hhigh]
  exact ⟨exec_start hp rfl, Instr.tmo_operands_waitready timeout w h arg present color⟩

/-- What no tick of WAITREADY writes (R188). -/
structure Undrawn (s t : State) : Prop where
  bus : t.bus = s.bus
  win : t.win = s.win
  n : t.n = s.n
  i : t.i = s.i
  idx : t.idx = s.idx

theorem Undrawn.trans (h : Undrawn s t) (h' : Undrawn t u) : Undrawn s u :=
  ⟨h'.bus.trans h.bus, h'.win.trans h.win, h'.n.trans h.n, h'.i.trans h.i, h'.idx.trans h.idx⟩

/-- Poll `j` from now answers `c` if no earlier one answers: it reads ready, or it does not and the timeout has been
counted (R186). -/
def AnswersAt (j : Nat) (c : Code) (s : State) : Prop :=
  (s.syncAt j = true ∧ c = .ok) ∨
  (s.syncAt j = false ∧ s.elapsed.toNat + j = s.lat.tmo.toNat ∧ c = .deviceTimeout)

/-- WAITREADY, in POLL in `s`, has ended in `t` with the answer `c` after `j` polls that only counted. -/
structure Polled (j : Nat) (c : Code) (s t : State) : Prop extends Undrawn s t where
  ph : t.ph = .idle
  status : t.status = c
  rspValid : t.rspValid = true
  elapsed : t.elapsed.toNat = s.elapsed.toNat + j

theorem AnswersAt.step_now (h : AnswersAt 0 c s) (hp : s.ph = .poll) (hr : s.pins.rst = false) :
    step s = .next (s.respond c).endTick := by
  rw [step_poll hp hr]
  rcases h with ⟨hsync, rfl⟩ | ⟨hsync, htmo, rfl⟩
  · rw [State.poll_ready hsync]
  · rw [State.poll_expired hsync (BitVec.eq_of_toNat_eq htmo)]

/-- What a poll that is neither ready nor the last leaves for the next tick: ELAPSED has counted, without a wrap. -/
theorem step_poll_counts (hp : s.ph = .poll) (hr : s.pins.rst = false) (hsync : s.sync1 = false)
    (hlt : s.elapsed.toNat < s.lat.tmo.toNat) :
    ∃ t, step s = .next t ∧ Undrawn s t ∧ t.ph = .poll ∧ t.lat = s.lat ∧ t.elapsed.toNat = s.elapsed.toNat + 1 := by
  have hcount := State.poll_counts hsync fun he => hlt.ne (congrArg BitVec.toNat he)
  have hnowrap : (s.elapsed + 1).toNat = s.elapsed.toNat + 1 := by bv_omega
  rw [step_poll hp hr, hcount]
  exact ⟨_, rfl, ⟨rfl, rfl, rfl, rfl, rfl⟩, hp, rfl, hnowrap⟩

/-- The polls up to the one that answers, by induction on their number (R186, R187). -/
theorem polls_end (hp : s.ph = .poll) (hr : s.NoReset (j + 1)) (hbound : s.elapsed.toNat + j ≤ s.lat.tmo.toNat)
    (hbusy : ∀ m < j, s.syncAt m = false) (hans : AnswersAt j c s) :
    ∃ t, Busy (j + 1) s t ∧ Polled j c s t := by
  induction j generalizing s with
  | zero =>
    exact ⟨_, .tick (by simp [hp]) hr.now (hans.step_now hp hr.now) (.zero _), ⟨rfl, rfl, rfl, rfl, rfl⟩, rfl, rfl, rfl, rfl⟩
  | succ j ih =>
    obtain ⟨u, hstep, hundrawn, hpu, hlat, hcount⟩ :=
      step_poll_counts hp hr.now (hbusy 0 (Nat.succ_pos j)) (by omega)
    have hsync := step_syncAt hr.now hstep
    have hansu : AnswersAt j c u := by
      simpa only [AnswersAt, hsync, hlat, hcount, Nat.add_assoc, Nat.add_comm 1] using hans
    obtain ⟨t, hrun, hend⟩ := ih hpu (hr.step hstep) (by rw [hlat]; omega)
      (fun m hm => (hsync m).trans (hbusy (m + 1) (Nat.succ_lt_succ hm))) hansu
    exact ⟨t, .tick (by simp [hp]) hr.now hstep hrun, { hend with
      toUndrawn := hundrawn.trans hend.toUndrawn
      elapsed := by rw [hend.elapsed, hcount]; omega }⟩

/-- The state in which the first poll of a WAITREADY accepted in `s` is made. -/
def waitStart (s : State) (o : Operands) : State := (s.latch o).startPoll.endTick

theorem waitStart_answered {o : Operands} (hj : j ≤ o.tmo.toNat) (hr : (waitStart s o).NoReset (j + 1))
    (hbusy : ∀ m < j, (waitStart s o).syncAt m = false) (hans : AnswersAt j c (waitStart s o)) :
    ∃ t, Busy (j + 1) (waitStart s o) t ∧ t.ph = .idle ∧ t.status = c ∧ t.rspCode = c.toBits ∧ t.rspValid = true ∧
      t.elapsed.toNat = j ∧ Undrawn s t := by
  obtain ⟨t, hrun, hundrawn, hidle, hstatus, hvalid, hcount⟩ :=
    polls_end rfl hr ((Nat.zero_add j).trans_le hj) hbusy hans
  have hstart : Undrawn s (waitStart s o) := ⟨rfl, rfl, rfl, rfl, rfl⟩
  exact ⟨t, hrun, hidle, hstatus, congrArg Code.toBits hstatus, hvalid, hcount.trans (Nat.zero_add j),
    hstart.trans hundrawn⟩

/-- Settles O31: the first ready poll up to TMO answers OK, and without one poll TMO answers DeviceTimeout. -/
theorem waitreadyEndsWithinItsBound : Obligations.WaitreadyEndsWithinItsBound := by
  intro s timeout w h arg present color hp
  have htmo := congrArg BitVec.toNat (Instr.tmo_operands_waitready timeout w h arg present color)
  refine ⟨_, exec_start (i := .waitready timeout w h arg present color) hp rfl,
    fun j hj hr hbusy hready => ?_, fun hr hbusy => ?_⟩
  · obtain ⟨t, hrun, hidle, hok, hcode, hvalid, hcount, hkept⟩ :=
      waitStart_answered (hj.trans_eq htmo.symm) hr hbusy (.inl ⟨hready, rfl⟩)
    exact ⟨t, hrun, hidle, hok, hcode, hvalid, hcount, hkept.bus, hkept.win, hkept.n, hkept.i, hkept.idx⟩
  · have hexpires := (Nat.zero_add timeout.toNat).trans htmo.symm
    obtain ⟨t, hrun, hidle, hout, hcode, hvalid, hcount, hkept⟩ :=
      waitStart_answered htmo.ge hr (fun m hm => hbusy m hm.le) (.inr ⟨hbusy _ le_rfl, hexpires, rfl⟩)
    exact ⟨t, hrun, hidle, hout, hcode, hvalid, BitVec.eq_of_toNat_eq hcount, hkept.bus, hkept.win, hkept.n, hkept.i,
      hkept.idx⟩

end Sys2Proof.Machine

/-! ## PROOFS. Rejection, the response codes, and the Power State (R200 to R208, R220 to R224) -/

namespace Sys2Proof.Machine

variable {s : State} {i : Instr} {o : Operands} {code : Code}

/-! ### The code of the first check that fails, R203 -/

theorem firstFailure_of_fails {passes : Bool} (h : passes = false) (c : Code) (later : List (Bool × Code)) :
    firstFailure ((passes, c) :: later) = some c := by
  rw [firstFailure, h, if_neg Bool.false_ne_true]

theorem firstFailure_of_passes {passes : Bool} (h : passes = true) (c : Code) (later : List (Bool × Code)) :
    firstFailure ((passes, c) :: later) = firstFailure later := by
  rw [firstFailure, if_pos h]

theorem PowerState.permitsDraw_eq_false {p : PowerState} (h : p ≠ .ready) : p.permitsDraw = false :=
  Bool.eq_false_iff.2 (mt p.permitsDraw_iff.1 h)

theorem PowerState.permitsDraw_eq_true {p : PowerState} (h : p = .ready) : p.permitsDraw = true :=
  p.permitsDraw_iff.2 h

theorem checkFill_not_ready (h : s.pins.pstate ≠ .ready) : checkFill s = some .invalidState :=
  firstFailure_of_fails (PowerState.permitsDraw_eq_false h) _ _

theorem checkFill_misfit (h : s.pins.pstate = .ready)
    (hgeom : geomOk s.cfg s.lat.x s.lat.y s.lat.w s.lat.h = false) : checkFill s = some .invalidGeometry := by
  rw [checkFill, firstFailure_of_passes (PowerState.permitsDraw_eq_true h), firstFailure_of_fails hgeom]

theorem checkRawbuf_eq_checkFill (s : State) : checkRawbuf s = checkFill s := rfl

theorem checkGlyph_not_ready (h : s.pins.pstate ≠ .ready) : checkGlyph s = some .invalidState :=
  firstFailure_of_fails (PowerState.permitsDraw_eq_false h) _ _

theorem checkGlyph_no_glyph (h : s.pins.pstate = .ready) (hcode : glyphOk s.cfg s.lat.arg = false) :
    checkGlyph s = some .invalidGlyph := by
  rw [checkGlyph, firstFailure_of_passes (PowerState.permitsDraw_eq_true h), firstFailure_of_fails hcode]

theorem checkGlyph_misfit (h : s.pins.pstate = .ready) (hcode : glyphOk s.cfg s.lat.arg = true)
    (hgeom : geomOk s.cfg s.lat.x s.lat.y Config.glyphWinW Config.glyphWinH = false) :
    checkGlyph s = some .invalidGeometry := by
  rw [checkGlyph, firstFailure_of_passes (PowerState.permitsDraw_eq_true h), firstFailure_of_passes hcode,
    firstFailure_of_fails hgeom]

theorem checkClear_not_ready (h : s.pins.pstate ≠ .ready) : checkClear s = some .invalidState :=
  firstFailure_of_fails (PowerState.permitsDraw_eq_false h) _ _

theorem glyphOk_eq_false {c : Config} {char : Byte} (h : char.toNat < 32 ∨ 32 + c.glyphN ≤ char.toNat) :
    glyphOk c char = false := by
  rw [Bool.eq_false_iff, ne_eq, glyphOk_iff]
  omega

/-! ### What a rejection writes, and what an idle block does not do, R208 -/

/-- The block after the request with the fields `o` is answered with `code` in the tick of its acceptance. -/
def State.answeredAtOnce (s : State) (o : Operands) (code : Code) : State :=
  { s with lat := o, status := code, rspValid := true }

theorem State.latch_respond_of_idle (hp : s.ph = .idle) : (s.latch o).respond code = s.answeredAtOnce o code :=
  State.respond_of_idle (s := s.latch o) hp code

theorem exec_rejects (hp : s.ph = .idle) (hc : checkOf i (s.latch i.operands) = some code) :
    exec i s = .next (s.answeredAtOnce i.operands code) := by
  obtain ⟨u, hu⟩ := exec_idle_next hp i
  rcases State.accept_cases (s := s) i.operands (checkOf i) (startOf i) with ⟨c, hfail, heq⟩ | ⟨hpass, -⟩
  · obtain rfl : code = c := Option.some.inj (hc.symm.trans hfail)
    rw [hu, exec_idle hp hu, heq, State.latch_respond_of_idle hp]
  · simp [hc] at hpass

theorem State.bufReads_idle (hp : s.ph = .idle) : s.bufReads = none := by
  simp [State.bufReads, State.bufIdx, hp]

theorem State.glyphReads_idle (hp : s.ph = .idle) : s.glyphReads = none := by
  simp [State.glyphReads, State.glyphIdx, hp]

theorem State.reqReady_idle (hp : s.ph = .idle) : s.reqReady = true := decide_eq_true hp

/-- A check that fails at an idle block: the answer is written, no event is offered, no space is read, and the next
request can be taken in the next tick. -/
theorem rejection_of_failed_check (hp : s.ph = .idle) (hc : checkOf i (s.latch i.operands) = some code) :
    exec i s = .next (s.answeredAtOnce i.operands code) ∧
    (s.answeredAtOnce i.operands code).endTick.reqReady = true ∧
    (s.answeredAtOnce i.operands code).endTick.rspCode = code.toBits ∧
    (s.answeredAtOnce i.operands code).event = none ∧
    s.event = none ∧ s.bufReads = none ∧ s.glyphReads = none :=
  ⟨exec_rejects hp hc, State.reqReady_idle (s := (s.answeredAtOnce _ _).endTick) hp, rfl,
    State.event_idle (s := s.answeredAtOnce _ _) hp, State.event_idle hp, State.bufReads_idle hp,
    State.glyphReads_idle hp⟩

/-- Settles O21: in each clause the named check is the first to fail, and a failed check is a rejection. -/
theorem firstFailingCheckRejects : Obligations.FirstFailingCheckRejects := by
  intro s hp rejects fits
  have misfit {x y w h : Word} (hfit : ¬ fits x y w h) : geomOk s.cfg x y w h = false :=
    Bool.eq_false_iff.2 (mt (geomOk_iff s.cfg x y w h).1 hfit)
  refine ⟨fun x y w h v p c => ⟨fun hstate => ?_, fun hready hfit => ?_⟩,
    fun x y w h p a c => ⟨fun hstate => ?_, fun hready hfit => ?_⟩,
    fun x y char c w h p => ⟨fun hstate => ?_, fun hready hchar => ?_, fun hready hlo hhi hfit => ?_⟩,
    fun x y w h a p c hstate => ?_, fun r hv hd => ⟨?_, rfl⟩⟩
  · exact rejection_of_failed_check hp (checkFill_not_ready hstate)
  · exact rejection_of_failed_check hp (checkFill_misfit hready (misfit hfit))
  · exact rejection_of_failed_check hp ((checkRawbuf_eq_checkFill _).trans (checkFill_not_ready hstate))
  · exact rejection_of_failed_check hp ((checkRawbuf_eq_checkFill _).trans (checkFill_misfit hready (misfit hfit)))
  · exact rejection_of_failed_check hp (checkGlyph_not_ready hstate)
  · exact rejection_of_failed_check hp (checkGlyph_no_glyph hready (glyphOk_eq_false hchar))
  · exact rejection_of_failed_check hp (checkGlyph_misfit hready ((glyphOk_iff s.cfg char).2 ⟨hlo, hhi⟩) (misfit hfit))
  · exact rejection_of_failed_check hp (checkClear_not_ready hstate)
  · rw [State.blockTick_reserved hp hv hd, State.latch_respond_of_idle hp]
    rfl

/-! ### The numbers of the response codes, R200 -/

theorem Code.toBits_eq_iff (c d : Code) : c.toBits = d.toBits ↔ c = d := by
  cases c <;> cases d <;> decide

theorem Code.toBits_ne_seven (c : Code) : c.toBits ≠ 7 := by
  cases c <;> decide

/-- Settles O22: the numbers tell the codes apart, and none of them is 7. -/
theorem responseCodeNumbers : Obligations.ResponseCodeNumbers := by
  intro s
  have number (c : Code) : s.status = c ↔ s.rspCode = c.toBits := (Code.toBits_eq_iff s.status c).symm
  exact ⟨number .ok, number .invalidState, number .invalidGlyph, number .invalidGeometry, number .deviceTimeout,
    number .deviceFault, number .invalidOp, s.status.toBits_ne_seven⟩

/-! ### WINDOW and WAITREADY in every Power State, R204 -/

/-- The block with another level on `pstate`. -/
def State.withPower (s : State) (p : PowerState) : State := s.withPins { s.pins with pstate := p }

theorem checkOf_unchecked (h : i.opNumber = 1 ∨ i.opNumber = 6) (s : State) : checkOf i s = none := by
  cases i with
  | window | waitready => rfl
  | fill | rawbuf | glyph | clear => simp [Instr.opNumber] at h

/-- What starts an operation reads no input. -/
theorem startOf_withPower (i : Instr) (s : State) (o : Operands) (p : PowerState) :
    startOf i ((s.withPower p).latch o) = (startOf i (s.latch o)).withPower p := by
  cases i <;> rfl

/-- Settles O23: neither operation has a check to fail, and its start does not read `pstate`. -/
theorem windowAndWaitreadyIgnorePowerState : Obligations.WindowAndWaitreadyIgnorePowerState := by
  intro s i p hp hop
  calc exec i (s.withPower p)
      = .next (startOf i ((s.withPower p).latch i.operands)) := exec_start hp (checkOf_unchecked hop _)
    _ = onNext (State.withPower · p) (.next (startOf i (s.latch i.operands))) := by rw [startOf_withPower]; rfl
    _ = onNext (State.withPower · p) (exec i s) := by rw [exec_start hp (checkOf_unchecked hop _)]

/-! ### The calls that leave each Power State, R220 to R224 -/

variable {p q : PowerState}

theorem CsmCall.mayLeave_init : CsmCall.initCall.mayLeave p q = true ↔ q = .ready := by simp [CsmCall.mayLeave]

theorem CsmCall.mayLeave_sleep : CsmCall.sleepCall.mayLeave p q = true ↔ p = .ready ∧ q = .sleeping := by
  simp [CsmCall.mayLeave]

theorem CsmCall.mayLeave_reset : CsmCall.resetCall.mayLeave p q = true ↔ q = p ∨ q = .uninitialized := by
  simp [CsmCall.mayLeave]

theorem CsmCall.mayLeave_refresh : CsmCall.refreshCall.mayLeave p q = true ↔ q = p := by simp [CsmCall.mayLeave]

/-- Settles O24: each call leaves the states its own law names, so Ready and Sleeping were there before or are its own. -/
theorem powerStateIsReachedByItsCall : Obligations.PowerStateIsReachedByItsCall := by
  refine ⟨fun c p q h => ?_, fun p q =>
    ⟨CsmCall.mayLeave_init, CsmCall.mayLeave_sleep, CsmCall.mayLeave_reset, CsmCall.mayLeave_refresh⟩⟩
  cases c with
  | resetCall =>
    obtain rfl | rfl := CsmCall.mayLeave_reset.1 h
    · exact ⟨.inl, .inl, id⟩
    · exact ⟨nofun, nofun, nofun⟩
  | initCall =>
    obtain rfl := CsmCall.mayLeave_init.1 h
    exact ⟨fun _ => .inr rfl, nofun, nofun⟩
  | refreshCall =>
    obtain rfl := CsmCall.mayLeave_refresh.1 h
    exact ⟨.inl, .inl, id⟩
  | sleepCall =>
    obtain ⟨rfl, rfl⟩ := CsmCall.mayLeave_sleep.1 h
    exact ⟨nofun, fun _ => .inr ⟨rfl, rfl⟩, nofun⟩

end Sys2Proof.Machine

/-! ## PROOFS. The tick with `rst = 1` (R240, R241) -/

namespace Sys2Proof.Machine

variable {s t : State}

/-! ### What a reset tick leaves, R44 -/

theorem State.resetTick_ph (s : State) : s.resetTick.ph = .idle := rfl

theorem State.resetTick_rspValid (s : State) : s.resetTick.rspValid = false := rfl

theorem State.resetTick_status (s : State) : s.resetTick.status = .ok := rfl

theorem State.evValid_idle (hp : s.ph = .idle) : s.evValid = false :=
  Bool.eq_false_iff.2 fun hvalid => (State.evValid_iff.1 hvalid).1 hp

/-- A tick with `rst = 1` has one outcome, the reset, whatever stands at the request port (R240). -/
theorem step_of_reset (hr : s.pins.rst = true) (h : step s = .next t) : t = s.resetTick :=
  Host.Outcome.next.inj (h.symm.trans (step_reset hr))

/-- Settles O48: the specified registers are written whatever runs, and the outputs follow from IDLE. -/
theorem resetTick : Obligations.ResetTick := by
  intro s hr
  have hidle := s.resetTick_ph
  obtain ⟨hsync1, hsync0⟩ := step_reset_sync hr (step_reset hr)
  exact ⟨s.resetTick, step_reset hr, hidle, s.resetTick_rspValid, s.resetTick_status, hsync0, hsync1,
    State.evValid_idle hidle, State.reqReady_idle hidle⟩

/-- Settles O49: BUS grows by what is taken in the tick, which is nothing without `ev_ready`, and IDLE offers no event. -/
theorem resetCutsTheOperation : Obligations.ResetCutsTheOperation := by
  intro s t hr _ hstep
  have hbus : t.bus = s.bus ++ s.emitted := step_bus hstep
  obtain rfl := step_of_reset hr hstep
  refine ⟨s.resetTick_ph, s.resetTick_rspValid, ⟨s.emitted, hbus.symm⟩, State.event_idle s.resetTick_ph,
    fun hstalled => ?_⟩
  rw [hbus, State.emitted_of_not_ready hstalled, List.append_nil]

end Sys2Proof.Machine
